-- ==== Sys2Proof/Word.lean ====
section
/-! DEFINITION. The two word types of the block: the byte (R7) and the 10-bit bus-cycle word (R49). -/
namespace Sys2Proof

/-- The data bus, DataIn, DataOut and the status byte are 8 bits (R7). -/
abbrev Byte := BitVec 8

/-- A CPU bus cycle written as a word: A0 in bit 9, W in bit 8, D in bits 7:0 (R49). -/
abbrev BusWord := BitVec 10

end Sys2Proof
end

