-- ==== Sys2Proof/Config.lean ====
section
/-! DEFINITION. What an implementation fixes: the shape of the control decode (U1) and the reference configuration that State.reset
carries (95_test_vectors.md). The open parameters TimeBase, BaudRate, BitsPerFrame, DeadTicks and InputSource (R6) are fields of State,
because CONSTRUCT and SET_BAUD write them; no statement rests on the reference values. -/
namespace Sys2Proof.Config

/-- How a write to offset 1 is decoded (U1 of 93_implementation_defined.md names it the parameter `ControlPolicy`): the bit of the
written byte that requests an error reset. The default, bit 4, is `Sys2Proof.Machine.controlPolicy` (R69, D11). -/
structure ControlPolicy where
  errorResetBit : Nat
deriving DecidableEq, Repr

/-- Reference TimeBase of 95_test_vectors.md, ticks per second. DESIGN CHOICE as the value in State.reset (log entry 2), unsafe. -/
def referenceTimeBase : Nat := 1000000

/-- Reference BaudRate of 95_test_vectors.md, bits per second. DESIGN CHOICE as the value in State.reset (log entry 2), unsafe. -/
def referenceBaudRate : Nat := 9600

/-- Reference BitsPerFrame of 95_test_vectors.md (D3). DESIGN CHOICE as the value in State.reset (log entry 2), unsafe. -/
def referenceBitsPerFrame : Nat := 10

/-- Reference DeadTicks of 95_test_vectors.md (D4). DESIGN CHOICE as the value in State.reset (log entry 2), unsafe. -/
def referenceDeadTicks : Nat := 3

/-- TicksPerHalfBit of the reference configuration, as 95_test_vectors.md states it (V1, row 9,600). -/
def referenceTicksPerHalfBit : Nat := 52

end Sys2Proof.Config
end

