-- ==== Sys2Proof/Syntax.lean ====
section
/-! DEFINITION. The operations of the block, one constructor of Instr per row of spec/opcode_table.json, and the form in which the host
presents them: a bus-cycle word (R49) or a host event named with its operands (R52). -/
namespace Sys2Proof

/-- The input-source selector (R6, R37): an interactive terminal, or a redirect source with the bytes it holds. -/
inductive InputSource where
  | interactive
  | redirect (bytes : List Byte)
deriving DecidableEq, Repr

/-- The operations of the opcode table (R51, R52). Integer operands keep their sign: an illegal one is rejected by the operation itself
(R106), not by the syntax. -/
inductive Instr where
  /-- RD_DATA, R98. -/
  | rdData
  /-- RD_STATUS, R99. -/
  | rdStatus
  /-- WR_DATA v, R100. -/
  | wrData (v : Byte)
  /-- WR_CONTROL v, R101. -/
  | wrControl (v : Byte)
  /-- TICK, R58; the answer of the backend, if the receive pass polls, comes from the environment part of State (R37). -/
  | tick
  /-- RESET, R121. -/
  | reset
  /-- SET_BAUD B, R60. -/
  | setBaud (baud : Int)
  /-- CONSTRUCT(TimeBase, BaudRate, BitsPerFrame, DeadTicks, InputSource), R120. -/
  | construct (timeBase baud bitsPerFrame deadTicks : Int) (source : InputSource)
  /-- NOW, the query now(), R59. -/
  | now
deriving DecidableEq, Repr

/-- What the host presents next: a bus cycle as its word (R49), or one of the five host events, which have no word (R52). -/
inductive Event where
  | bus (w : BusWord)
  | tick
  | reset
  | setBaud (baud : Int)
  | construct (timeBase baud bitsPerFrame deadTicks : Int) (source : InputSource)
  | now
deriving DecidableEq, Repr

/-- The operation is one of the four CPU bus cycles (R97). -/
def Instr.isBusCycle : Instr → Bool
  | .rdData => true
  | .rdStatus => true
  | .wrData _ => true
  | .wrControl _ => true
  | .tick => false
  | .reset => false
  | .setBaud _ => false
  | .construct _ _ _ _ _ => false
  | .now => false

end Sys2Proof
end

