-- ==== Sys2Proof/Machine/State.lean ====
section
/-! DEFINITION. The state: the record of R13, field by field, and the environment the rules name (the backend's side of the poll and of
the sink, the host's coming events, the latest read result); the reasons a step can stop; the state after reset. -/
namespace Sys2Proof.Machine

/-- ReceivePhase (R25). -/
inductive RxPhase where
  | idle
  | deadTime
  | active
deriving DecidableEq, Repr

/-- TransmitPhase (R28). -/
inductive TxPhase where
  | idle
  | sending
deriving DecidableEq, Repr

/-- The codes of ConfigError (R106). -/
inductive ConfigError where
  | baudNotPositive
  | timeBaseNotPositive
  | bitsPerFrameNotPositive
  | deadTicksNegative
deriving DecidableEq, Repr

/-- FaultInfo (R13, R106): a code with the rejected value. -/
structure FaultInfo where
  code : ConfigError
  value : Int
deriving DecidableEq, Repr

/-- The backend's answer to one poll (R37). -/
inductive PollAnswer where
  | noData
  | data (b : Byte)
  | endOfInput
deriving DecidableEq, Repr

/-- What the host got from its latest read or query: nothing yet, the byte of a read cycle (R98, R99), or the count of now() (R59). -/
inductive Result where
  | none
  | byte (b : Byte)
  | ticks (n : Nat)
deriving DecidableEq, Repr

/-- The state. The first block is the record of R13, the second its configuration rows, the third the environment (log entries 1, 3
and 5). Counters are integers without a width (R7, D14); BaudRate and the other parameters are positive or non-negative, so natural
numbers. -/
@[ext]
structure State where
  dataIn : Byte
  dataOut : Byte
  txRDY : Bool
  rxRDY : Bool
  txE : Bool
  pe : Bool
  oe : Bool
  fe : Bool
  syndet : Bool
  dsr : Bool
  rxPhase : RxPhase
  rxRemaining : Nat
  rxExhausted : Bool
  txPhase : TxPhase
  txRemaining : Nat
  tickCounter : Nat
  faulted : Bool
  faultInfo : Option FaultInfo
  baudRate : Nat
  timeBase : Nat
  ticksPerHalfBit : Nat
  bitsPerFrame : Nat
  deadTicks : Nat
  inputSource : InputSource
  /-- How many bytes of a redirect source the backend has handed over (R37; "the backend's input position", R123). -/
  sourcePos : Nat
  /-- The answers an interactive terminal gives to the coming polls, `none` for NoData; past the end it answers NoData (log entry 3). -/
  pollAnswers : List (Option Byte)
  /-- The backend's write sink, oldest byte first (R38). -/
  sink : List Byte
  /-- The answer of the latest RD_DATA, RD_STATUS or NOW (log entry 5). -/
  result : Result
  /-- The host's coming events, in the order it chose (R10, R43; log entry 1). -/
  pending : List Event
deriving DecidableEq, Repr

/-- Why the machine stops for good. -/
inductive Fault where
  /-- Faulted = 1: no event but CONSTRUCT has a step (R32, R59, R107). Raised by `whenLive` for every such operation, and by the step
  when nothing, or no word of the format, is presented. Safe: the model stops (log entry 6). -/
  | deviceFaulted
deriving DecidableEq, Repr

/-- Why a step has no meaning. -/
inductive Refusal where
  /-- An operation without a meaning yet, by its mnemonic; no arm of this model raises it. Safe. -/
  | notModelled (mnemonic : String)
  /-- The event presented is a bus read word with D != 0, which is no word of the format (R53, U15); no other event is refused. Raised
  by the step (`refuseEvent`). Safe. -/
  | readWordWithData (e : Event)
deriving DecidableEq, Repr

/-- The state right after reset: the values of R121 and R122. The configuration, which RESET keeps and the spec leaves open, is the
reference configuration of 95_test_vectors.md (DESIGN CHOICE, log entry 2, unsafe); the environment is empty (DESIGN CHOICE, log
entries 1, 3 and 5). -/
def State.reset : State where
  dataIn := 0x00#8
  dataOut := 0x00#8
  txRDY := true
  rxRDY := false
  txE := true
  pe := false
  oe := true
  fe := false
  syndet := false
  dsr := false
  rxPhase := .idle
  rxRemaining := 0
  rxExhausted := false
  txPhase := .idle
  txRemaining := 0
  tickCounter := 0
  faulted := false
  faultInfo := none
  baudRate := Config.referenceBaudRate
  timeBase := Config.referenceTimeBase
  ticksPerHalfBit := Config.referenceTicksPerHalfBit
  bitsPerFrame := Config.referenceBitsPerFrame
  deadTicks := Config.referenceDeadTicks
  inputSource := .interactive
  sourcePos := 0
  pollAnswers := []
  sink := []
  result := .none
  pending := []

end Sys2Proof.Machine
end

