-- ==== Sys2Proof/Machine/Flags.lean ====
section
/-! DEFINITION. The status register multiplexer (R63 to R68), the control bits (R69, R70) and the rx-ready line (R34). -/
namespace Sys2Proof.Machine

/-- StatusByte(), the live composition of the eight flags, bit 7 first (R64, R65). It has no storage of its own (R63, R66). -/
def statusByte (s : State) : Byte :=
  BitVec.ofBool s.dsr ++ BitVec.ofBool s.syndet ++ BitVec.ofBool s.fe ++ BitVec.ofBool s.oe ++
    BitVec.ofBool s.pe ++ BitVec.ofBool s.txE ++ BitVec.ofBool s.rxRDY ++ BitVec.ofBool s.txRDY

/-- RXRDY_OUT, a level equal to RxRDY at every instant (R34); active high, not configurable (D20). -/
def rxrdyOut (s : State) : Bool := s.rxRDY

/-- The control decode in force: bit 4 is the error reset (R69, D11). DESIGN CHOICE of the spec (log entry 9), unsafe. -/
def controlPolicy : Config.ControlPolicy := { errorResetBit := 4 }

/-- The error reset clears FE, OE and PE (R69). -/
def clearErrors (s : State) : State := { s with fe := false, oe := false, pe := false }

/-- ControlWrite(D) under a given policy (R69, U1): the byte is not stored, and every bit but the policy's is ignored. -/
def controlWriteWith (p : Config.ControlPolicy) (d : Byte) (s : State) : State :=
  if d.getLsbD p.errorResetBit then clearErrors s else s

/-- ControlWrite(D) (R69). -/
def controlWrite (d : Byte) (s : State) : State := controlWriteWith controlPolicy d s

end Sys2Proof.Machine
end

