-- ==== Sys2Proof/Machine/Operands.lean ====
section
/-! DEFINITION. The checks on integer operands (R106). The only other operand, the write byte D, is used as is (R50). -/
namespace Sys2Proof.Machine

/-- The check of a baud rate (R60, R106): the code and the rejected value when it is not positive. -/
def checkBaud (b : Int) : Option FaultInfo :=
  if b ≤ 0 then some ⟨.baudNotPositive, b⟩ else none

/-- The four checks of CONSTRUCT in the order of R120; the first failing one is reported. -/
def checkParameters (t b f n : Int) : Option FaultInfo :=
  if t ≤ 0 then some ⟨.timeBaseNotPositive, t⟩
  else if b ≤ 0 then some ⟨.baudNotPositive, b⟩
  else if f ≤ 0 then some ⟨.bitsPerFrameNotPositive, f⟩
  else if n < 0 then some ⟨.deadTicksNegative, n⟩
  else none

end Sys2Proof.Machine
end

