-- ==== Sys2Proof/Machine/Ops.lean ====
section
/-! DEFINITION. The shared operations: running only while not faulted, taking ConfigError, the backend's poll and write, the device
reset and the bring-up. There is no return from the fault (R112). -/
namespace Sys2Proof.Machine

/-- An event has a step only while Faulted = 0 (R32). -/
def whenLive (s : State) (effect : State → State) : Host.Outcome State Fault Refusal :=
  if s.faulted then .fault .deviceFaulted else .next (effect s)

/-- `raise ConfigError(info)`: Faulted and FaultInfo are written, no other state element changes (R107). -/
def raiseConfigError (info : FaultInfo) (s : State) : State :=
  { s with faulted := true, faultInfo := some info }

/-- The event's answer is what the host last got (R49, R59; log entry 5). -/
def answer (r : Result) (s : State) : State := { s with result := r }

/-- BackendPoll()'s answer (R37): a redirect source gives its bytes in order and then EndOfInput at every later poll; an interactive
terminal gives NoData or the next byte, never EndOfInput. -/
def pollAnswer (s : State) : PollAnswer :=
  match s.inputSource with
  | .redirect bytes =>
    match bytes[s.sourcePos]? with
    | some b => .data b
    | none => .endOfInput
  | .interactive =>
    match s.pollAnswers with
    | some b :: _ => .data b
    | none :: _ => .noData
    | [] => .noData

/-- The environment after one poll (R37): a byte handed over is no longer held by the backend; the exhausted source consumes nothing. -/
def afterPoll (s : State) : State :=
  match s.inputSource with
  | .redirect bytes =>
    match bytes[s.sourcePos]? with
    | some _ => { s with sourcePos := s.sourcePos + 1 }
    | none => s
  | .interactive => { s with pollAnswers := s.pollAnswers.tail }

/-- BackendWrite(b): the byte is appended to the sink and never fails (R38, R94). -/
def backendWrite (b : Byte) (s : State) : State := { s with sink := s.sink ++ [b] }

/-- The writes of RESET (R121): everything of R13 but the configuration, Faulted and FaultInfo. The environment is outside the block
(R123). -/
def resetDevice (s : State) : State :=
  { s with
    tickCounter := 0
    dataIn := 0x00#8
    dataOut := 0x00#8
    txRDY := true
    txE := true
    rxRDY := false
    oe := true
    fe := false
    pe := false
    syndet := false
    dsr := false
    rxPhase := .idle
    rxRemaining := 0
    rxExhausted := false
    txPhase := .idle
    txRemaining := 0 }

end Sys2Proof.Machine
end

