-- ==== Sys2Proof/Machine/TickClock.lean ====
section
/-! DEFINITION. The baud-rate generator and the tick counter (R56 to R62), and the bring-up that uses them (R120). -/
namespace Sys2Proof.Machine

/-- `ticksFor(B) = max(1, TimeBase div (2 * B))` (R56), truncating and clamped (D2). -/
def ticksFor (timeBase baud : Nat) : Nat := max 1 (timeBase / (2 * baud))

/-- TxDelay, the TICKs of one frame: `TicksPerHalfBit * 2 * BitsPerFrame` (R62). -/
def txDelay (s : State) : Nat := s.ticksPerHalfBit * 2 * s.bitsPerFrame

/-- `now() = TickCounter` (R59). -/
def nowTicks (s : State) : Nat := s.tickCounter

/-- TICK's first write: TickCounter + 1 (R58). -/
def advanceClock (s : State) : State := { s with tickCounter := s.tickCounter + 1 }

/-- A legal baud rate takes effect: BaudRate and TicksPerHalfBit, and nothing else (R60, R61). -/
def setRate (baud : Nat) (s : State) : State :=
  { s with baudRate := baud, ticksPerHalfBit := ticksFor s.timeBase baud }

/-- CONSTRUCT with legal parameters (R120): the configuration, TicksPerHalfBit, Faulted and FaultInfo, then RESET. The new instance
has its own backend (R116, R119, R123): a source not yet read and an empty sink (DEDUCED, log entry 4, unsafe). -/
def bringUp (timeBase baud bitsPerFrame deadTicks : Nat) (source : InputSource) (s : State) : State :=
  resetDevice
    { s with
      faulted := false
      faultInfo := none
      timeBase := timeBase
      baudRate := baud
      bitsPerFrame := bitsPerFrame
      deadTicks := deadTicks
      inputSource := source
      ticksPerHalfBit := ticksFor timeBase baud
      sourcePos := 0
      sink := [] }

end Sys2Proof.Machine
end

