-- ==== Sys2Proof/Machine/Transmitter.lean ====
section
/-! DEFINITION. The transmit state machine (R87 to R91) and the start of a frame by WR_DATA (R100). -/
namespace Sys2Proof.Machine

/-- Sending arm, countdown (R89). -/
def txCountdown (s : State) : State := { s with txRemaining := s.txRemaining - 1 }

/-- Sending arm, countdown at zero (R90): the byte goes to the sink and the transmitter is ready and empty; DataOut is kept. -/
def txEmit (s : State) : State :=
  { backendWrite s.dataOut s with txRDY := true, txE := true, txPhase := .idle }

/-- TransmitPass (R88): nothing while Idle (R91). -/
def transmitPass (s : State) : State :=
  match s.txPhase with
  | .idle => s
  | .sending => if s.txRemaining - 1 = 0 then txEmit (txCountdown s) else txCountdown s

/-- WR_DATA's first write: the byte is latched (R100). -/
def loadDataOut (v : Byte) (s : State) : State := { s with dataOut := v }

/-- The start of a frame (R100): not ready, not empty, Sending, and a countdown of TxDelay TICKs (R62). -/
def startFrame (s : State) : State :=
  { s with txRDY := false, txE := false, txPhase := .sending, txRemaining := txDelay s }

end Sys2Proof.Machine
end

