-- ==== Sys2Proof/Machine/BusCycles.lean ====
section
/-! DEFINITION. The four CPU bus cycles (R97 to R101), and the same by offset and direction (R9, R36). -/
namespace Sys2Proof.Machine

/-- RD_DATA (R98): the answer is DataIn, and RxRDY is cleared; DataIn and OE are kept. -/
def execRdData (s : State) : Host.Outcome State Fault Refusal :=
  whenLive s fun s => answer (.byte s.dataIn) { s with rxRDY := false }

/-- RD_STATUS (R99): the answer is StatusByte(), and nothing is written (R71). -/
def execRdStatus (s : State) : Host.Outcome State Fault Refusal :=
  whenLive s fun s => answer (.byte (statusByte s)) s

/-- WR_DATA v (R100): the byte is latched; a frame starts when TxRDY = 1, else the countdown runs on (D9). -/
def execWrData (v : Byte) (s : State) : Host.Outcome State Fault Refusal :=
  whenLive s fun s => if s.txRDY then startFrame (loadDataOut v s) else loadDataOut v s

/-- WR_CONTROL v (R101): ControlWrite(v). -/
def execWrControl (v : Byte) (s : State) : Host.Outcome State Fault Refusal :=
  whenLive s fun s => controlWrite v s

/-- `MemRead(a, 1)`: a bus read cycle at offset a (R9, R36). -/
def memRead (a : BitVec 1) (s : State) : Host.Outcome State Fault Refusal :=
  if a = 0#1 then execRdData s else execRdStatus s

/-- `MemWrite(a, 1, v)`: a bus write cycle of byte v at offset a (R9, R36). -/
def memWrite (a : BitVec 1) (v : Byte) (s : State) : Host.Outcome State Fault Refusal :=
  if a = 0#1 then execWrData v s else execWrControl v s

end Sys2Proof.Machine
end

