-- ==== Sys2Proof/Machine/Receiver.lean ====
section
/-! DEFINITION. The receive state machine and dead-time logic (R73 to R80): one definition per arm, and the pass. -/
namespace Sys2Proof.Machine

/-- Idle arm (R75): to Active unless the input is exhausted; no poll. -/
def rxIdle (s : State) : State := if s.rxExhausted then s else { s with rxPhase := .active }

/-- DeadTime arm (R76): one dead-time TICK fewer, and Active at zero; no poll. -/
def rxDeadTime (s : State) : State :=
  { s with
    rxRemaining := s.rxRemaining - 1
    rxPhase := if s.rxRemaining - 1 = 0 then .active else .deadTime }

/-- Active arm, byte available and DataIn free (R77): latch, and dead time when DeadTicks > 0. -/
def rxLatch (b : Byte) (s : State) : State :=
  if 0 < s.deadTicks then
    { s with dataIn := b, rxRDY := true, rxPhase := .deadTime, rxRemaining := s.deadTicks }
  else { s with dataIn := b, rxRDY := true }

/-- Active arm, byte available and DataIn full (R78): the byte is dropped and OE set. -/
def rxOverrun (s : State) : State := { s with oe := true }

/-- Active arm, input exhausted (R79). -/
def rxExhaust (s : State) : State := { s with rxPhase := .idle, rxExhausted := true }

/-- The Active arm for a given answer (R77 to R80). -/
def rxActive (r : PollAnswer) (s : State) : State :=
  match r with
  | .data b => if s.rxRDY then rxOverrun s else rxLatch b s
  | .endOfInput => rxExhaust s
  | .noData => s

/-- ReceivePass (R74): the backend is polled in the Active arm only. -/
def receivePass (s : State) : State :=
  match s.rxPhase with
  | .idle => rxIdle s
  | .deadTime => rxDeadTime s
  | .active => rxActive (pollAnswer s) (afterPoll s)

end Sys2Proof.Machine
end

