-- ==== Sys2Proof/Machine/HostEvents.lean ====
section
/-! DEFINITION. The host events TICK, RESET, SET_BAUD, CONSTRUCT and the query NOW (R52). -/
namespace Sys2Proof.Machine

/-- TICK (R58): the counter, then the receive pass, then the transmit pass (their order is immaterial, R44). -/
def execTick (s : State) : Host.Outcome State Fault Refusal :=
  whenLive s fun s => transmitPass (receivePass (advanceClock s))

/-- RESET (R121). -/
def execReset (s : State) : Host.Outcome State Fault Refusal :=
  whenLive s resetDevice

/-- SET_BAUD B (R60): a rate that is not positive raises ConfigError; a legal one takes effect at once and leaves both countdowns (R61). -/
def execSetBaud (b : Int) (s : State) : Host.Outcome State Fault Refusal :=
  whenLive s fun s =>
    match checkBaud b with
    | some info => raiseConfigError info s
    | none => setRate b.toNat s

/-- CONSTRUCT (R120): the first failing check raises ConfigError; legal parameters bring the device up. It is not barred by Faulted: its
first statement clears it (DEDUCED, log entry 4, unsafe). -/
def execConstruct (t b f n : Int) (source : InputSource) (s : State) : Host.Outcome State Fault Refusal :=
  match checkParameters t b f n with
  | some info => .next (raiseConfigError info s)
  | none => .next (bringUp t.toNat b.toNat f.toNat n.toNat source s)

/-- NOW (R59): the answer is TickCounter, and nothing is written. -/
def execNow (s : State) : Host.Outcome State Fault Refusal :=
  whenLive s fun s => answer (.ticks (nowTicks s)) s

end Sys2Proof.Machine
end

