-- ==== Sys2Proof/Machine/Dispatch.lean ====
section
/-! DEFINITION. The dispatch: one arm per operation of the opcode table. -/
namespace Sys2Proof.Machine

/-- The meaning of each operation. -/
def exec (i : Instr) (s : State) : Host.Outcome State Fault Refusal :=
  match i with
  | .rdData => Sys2Proof.Machine.execRdData s
  | .rdStatus => Sys2Proof.Machine.execRdStatus s
  | .wrData v => Sys2Proof.Machine.execWrData v s
  | .wrControl v => Sys2Proof.Machine.execWrControl v s
  | .tick => Sys2Proof.Machine.execTick s
  | .reset => Sys2Proof.Machine.execReset s
  | .setBaud b => Sys2Proof.Machine.execSetBaud b s
  | .construct t b f n src => Sys2Proof.Machine.execConstruct t b f n src s
  | .now => Sys2Proof.Machine.execNow s

end Sys2Proof.Machine
end

