-- ==== Sys2Proof/WellFormed.lean ====
section
/-! DEFINITION. Which operations and words are legal: the ranges R6 and the opcode table give the operands, and the one word form that
is no word of the format (R53). An operation with an illegal operand still runs: it raises ConfigError (R106). -/
namespace Sys2Proof

/-- Operands within the ranges of R6: a positive baud rate for SET_BAUD; positive TimeBase, BaudRate and BitsPerFrame and non-negative
DeadTicks for CONSTRUCT. Every operand of the other operations is legal (R53, R105). -/
def Instr.wf : Instr → Bool
  | .rdData => true
  | .rdStatus => true
  | .wrData _ => true
  | .wrControl _ => true
  | .tick => true
  | .reset => true
  | .setBaud b => decide (0 < b)
  | .construct t b f n _ => decide (0 < t) && decide (0 < b) && decide (0 < f) && decide (0 ≤ n)
  | .now => true

/-- A bus word is a word of the format unless it is a read (W = 0) with D != 0 (R53). -/
def BusWord.wf (w : BusWord) : Bool :=
  w.getLsbD 8 || w.extractLsb' 0 8 == 0#8

/-- A bus event carries a word of the format; host events have no word (R52). -/
def Event.wf : Event → Bool
  | .bus w => BusWord.wf w
  | .tick => true
  | .reset => true
  | .setBaud _ => true
  | .construct _ _ _ _ _ => true
  | .now => true

end Sys2Proof
end

