-- ==== Sys2Proof/Decode.lean ====
section
/-! DEFINITION. The bus-cycle word (R49 to R54): its fields, the decoder, the encoder, and the decoding of whatever the host presents. -/
namespace Sys2Proof

/-- The register select, `w[9]` (R49). -/
def BusWord.regSelect (w : BusWord) : Bool := w.getLsbD 9

/-- The direction, `w[8]`: 1 = write (R49). -/
def BusWord.isWrite (w : BusWord) : Bool := w.getLsbD 8

/-- The write byte, `w[7:0]`, used as is (R49, R50). -/
def BusWord.data (w : BusWord) : Byte := w.extractLsb' 0 8

/-- The decoder, by the opcode map of R51. A read word with D != 0 is refused (R53); nothing else is. The meaning of a word never
depends on the block's state (R54). -/
def decode (w : BusWord) : Option Instr :=
  match w.regSelect, w.isWrite with
  | false, false => if w.data = 0#8 then some .rdData else none
  | true, false => if w.data = 0#8 then some .rdStatus else none
  | false, true => some (.wrData w.data)
  | true, true => some (.wrControl w.data)

/-- The word with the given fields: A0, W and D from the top (R49). -/
def assemble (regSelect isWrite : Bool) (data : Byte) : BusWord :=
  BitVec.ofBool regSelect ++ BitVec.ofBool isWrite ++ data

/-- The encoder, by the opcode map of R51; a host event has no bus word (R52). -/
def encode : Instr → Option BusWord
  | .rdData => some (assemble false false 0#8)
  | .rdStatus => some (assemble true false 0#8)
  | .wrData v => some (assemble false true v)
  | .wrControl v => some (assemble true true v)
  | .tick => none
  | .reset => none
  | .setBaud _ => none
  | .construct _ _ _ _ _ => none
  | .now => none

/-- What the host presents, read as an operation: a word through the decoder, a host event by its name. -/
def decodeEvent : Event → Option Instr
  | .bus w => decode w
  | .tick => some .tick
  | .reset => some .reset
  | .setBaud b => some (.setBaud b)
  | .construct t b f n src => some (.construct t b f n src)
  | .now => some .now

/-- How the host presents an operation: a bus cycle as its word, a host event by its name. -/
def encodeEvent : Instr → Event
  | .rdData => .bus (assemble false false 0#8)
  | .rdStatus => .bus (assemble true false 0#8)
  | .wrData v => .bus (assemble false true v)
  | .wrControl v => .bus (assemble true true v)
  | .tick => .tick
  | .reset => .reset
  | .setBaud b => .setBaud b
  | .construct t b f n src => .construct t b f n src
  | .now => .now

/-- The mnemonic spec/opcode_table.json gives the operation. -/
def Instr.mnemonic : Instr → String
  | .rdData => "RD_DATA"
  | .rdStatus => "RD_STATUS"
  | .wrData _ => "WR_DATA"
  | .wrControl _ => "WR_CONTROL"
  | .tick => "TICK"
  | .reset => "RESET"
  | .setBaud _ => "SET_BAUD"
  | .construct _ _ _ _ _ => "CONSTRUCT"
  | .now => "NOW"

/-- A bus-cycle row of spec/opcode_table.json: a word belongs to it when the masked word equals the match. -/
structure OpcodeRow where
  mnemonic : String
  pattern : BusWord
  mask : BusWord
deriving DecidableEq, Repr

/-- The four bus-cycle rows of spec/opcode_table.json; the five host-event rows have no word (R52). -/
def opcodeRows : List OpcodeRow :=
  [⟨"RD_DATA", 0x000#10, 0x3FF#10⟩, ⟨"RD_STATUS", 0x200#10, 0x3FF#10⟩,
   ⟨"WR_DATA", 0x100#10, 0x300#10⟩, ⟨"WR_CONTROL", 0x300#10, 0x300#10⟩]

/-- The word belongs to the row. -/
def OpcodeRow.covers (r : OpcodeRow) (w : BusWord) : Bool := w &&& r.mask == r.pattern

/-- What the decoder reads from a table row's number `w` of `nbits` bits. A bus word has ten bits, so a number with a bit above bit 9
is no word of the format, and host-event rows have no word at all (R52): the number 0 is RD_DATA. -/
def decodeTableWord (_nbits w : Nat) : Option Instr :=
  if w < 1024 then decode (BitVec.ofNat 10 w) else none

end Sys2Proof
end

