-- ==== Sys2Proof/Machine/Fetch.lean ====
section
/-! DEFINITION. Where the next operation comes from: the block fetches nothing (R14); the host presents its events one after the other
(R10, R43), and a step takes the first of them. -/
namespace Sys2Proof.Machine

/-- The first pending event, and the state without it; none when the host presents nothing. -/
def fetchEvent (s : State) : Option (Event × State) :=
  match s.pending with
  | [] => none
  | e :: rest => some (e, { s with pending := rest })

/-- No event: nothing changes (R10, R118); a faulted device has no step (R32, R107). -/
def idleStep (s : State) : Host.Outcome State Fault Refusal := whenLive s id

/-- An event the decoder refuses, which is a read word with D != 0 (R53); a faulted device has no step whatever is presented (R32). -/
def refuseEvent (e : Event) (s : State) : Host.Outcome State Fault Refusal :=
  if s.faulted then .fault .deviceFaulted else .refused (.readWordWithData e)

/-- The host presents the bus word `w` (its low ten bits, R49) before everything else it holds. -/
def presentWord (s : State) (w : Nat) : State :=
  { s with pending := .bus (BitVec.ofNat 10 w) :: s.pending }

end Sys2Proof.Machine
end

