-- ==== Sys2Proof/Machine/Step.lean ====
section
/-! DEFINITION. One step: the next pending event of the host, decoded and run. -/
namespace Sys2Proof.Machine

/-- One event, atomic (R10, R43): the first pending event is taken, decoded and run; with none pending nothing changes. -/
def step (s : State) : Host.Outcome State Fault Refusal :=
  match fetchEvent s with
  | none => idleStep s
  | some (e, s') =>
    match decodeEvent e with
    | none => refuseEvent e s
    | some i => exec i s'

/-- The bus word `w` is the next event the host presents (log entry 1). -/
def State.withFetchWord (s : State) (_nbits w : Nat) : State := presentWord s w

end Sys2Proof.Machine
end

