-- ==== Sys2Proof/Machine/Script.lean ====
section
/-! DEFINITION. Host scripts (R55): operations run one after the other, the pseudo-forms and their expansions, and the polling loops.
Host variables and jumps are the host's; the block sees only the events the loop issues. -/
namespace Sys2Proof.Machine

/-- The operations in order, each atomic, stopping at the first that has no step (R43). -/
def runInstrs : List Instr → State → Host.Outcome State Fault Refusal
  | [], s => .next s
  | i :: is, s =>
    match exec i s with
    | .next t => runInstrs is t
    | .fault r => .fault r
    | .refused r => .refused r

/-- The three polling pseudo-forms WAIT_TXRDY, WAIT_TXE and WAIT_RXRDY (R55). -/
inductive StatusWait where
  | txRdy
  | txE
  | rxRdy
deriving DecidableEq, Repr

/-- The status bit a polling pseudo-form tests (R55). -/
def StatusWait.bit : StatusWait → Nat
  | .txRdy => 0
  | .txE => 2
  | .rxRdy => 1

/-- A line of a host script (R55): a base form, a read into a host variable, or a pseudo-form. -/
inductive ScriptLine where
  | event (i : Instr)
  | readInto (i : Instr) (var : String)
  | ticks (n : Nat)
  | clrErr
  | wait (w : StatusWait)
deriving DecidableEq, Repr

/-- The events a line stands for (R55); a polling loop has no fixed expansion. -/
def ScriptLine.expand : ScriptLine → Option (List Instr)
  | .event i => some [i]
  | .readInto i _ => some [i]
  | .ticks n => some (List.replicate n .tick)
  | .clrErr => some [.wrControl 0x10#8]
  | .wait _ => none

/-- `L: RD STATUS -> s; if s[bit] = 1 goto done; TICK; goto L; done:` (R55), at most `fuel` times round; none when it is not done by
then or an event has no step. -/
def waitLoop (w : StatusWait) : Nat → State → Option State
  | 0, _ => none
  | fuel + 1, s =>
    match exec .rdStatus s with
    | .next t =>
      if (statusByte t).getLsbD w.bit then some t
      else
        match exec .tick t with
        | .next u => waitLoop w fuel u
        | .fault _ => none
        | .refused _ => none
    | .fault _ => none
    | .refused _ => none

/-- The host's variables, latest first (R55). -/
abbrev HostVars := List (String × Result)

/-- The state an outcome goes on in, if it goes on. -/
def nextState : Host.Outcome State Fault Refusal → Option State
  | .next t => some t
  | .fault _ => none
  | .refused _ => none

/-- One script line with the host's variables (R55); none when a loop is not done within `fuel` or an event has no step. DESIGN CHOICE
(log entry 18, unsafe): the `s` in the expansion of a WAIT_* loop is scratch of the loop, so a polling line leaves every script variable
as it was, one named `s` included; R55 does not say whether `s` is set after the loop. -/
def runLine (fuel : Nat) (line : ScriptLine) (vars : HostVars) (s : State) : Option (HostVars × State) :=
  match line with
  | .event i => (nextState (exec i s)).map fun t => (vars, t)
  | .readInto i var => (nextState (exec i s)).map fun t => ((var, t.result) :: vars, t)
  | .ticks n => (nextState (runInstrs (List.replicate n .tick) s)).map fun t => (vars, t)
  | .clrErr => (nextState (exec (.wrControl 0x10#8) s)).map fun t => (vars, t)
  | .wait w => (waitLoop w fuel s).map fun t => (vars, t)

/-- A script from its first line to its last (R55). -/
def runScript (fuel : Nat) : List ScriptLine → HostVars → State → Option (HostVars × State)
  | [], vars, s => some (vars, s)
  | line :: rest, vars, s =>
    match runLine fuel line vars s with
    | some (vars', t) => runScript fuel rest vars' t
    | none => none

end Sys2Proof.Machine
end

