-- ==== Sys2Proof/Safety.lean ====
section
/-! DEFINITION. The terms the statements use: the invariant of R33, which events leave a run undisturbed, and what a run takes from the
backend, writes and emits. -/
namespace Sys2Proof.Machine

/-- R33 (I1) and (I2): TxRDY = TxE = (TxPhase = Idle), and TxRemaining is positive exactly in Sending. -/
abbrev State.TxInv (s : State) : Prop :=
  s.txRDY = decide (s.txPhase = .idle) ∧ s.txE = decide (s.txPhase = .idle) ∧
    (s.txPhase = .sending → 1 ≤ s.txRemaining) ∧ (s.txPhase = .idle → s.txRemaining = 0)

/-- R33 (I3) and (I4), and R26: RxRemaining is positive in DeadTime and 0 otherwise; an exhausted receiver is Idle. -/
abbrev State.RxInv (s : State) : Prop :=
  (s.rxPhase = .deadTime → 1 ≤ s.rxRemaining) ∧ (s.rxPhase ≠ .deadTime → s.rxRemaining = 0) ∧
    (s.rxExhausted = true → s.rxPhase = .idle)

/-- R33 (I5): DSR = SYNDET = FE = PE = 0. -/
abbrev State.ConstantBits (s : State) : Prop :=
  s.dsr = false ∧ s.syndet = false ∧ s.fe = false ∧ s.pe = false

/-- The configuration is legal (R6) and TicksPerHalfBit is derived from it (R31, R56). -/
abbrev State.ConfigInv (s : State) : Prop :=
  0 < s.timeBase ∧ 0 < s.baudRate ∧ 0 < s.bitsPerFrame ∧
    s.ticksPerHalfBit = max 1 (s.timeBase / (2 * s.baudRate))

/-- FaultInfo is recorded exactly while Faulted = 1 (R13, R107). -/
abbrev State.FaultInv (s : State) : Prop := s.faultInfo.isSome = s.faulted

/-- What holds in every state reachable from construction or RESET: the invariants of R33 with R26, R31 and R13. -/
abbrev State.Inv (s : State) : Prop :=
  s.TxInv ∧ s.RxInv ∧ s.ConstantBits ∧ s.ConfigInv ∧ s.FaultInv

/-- The operation belongs to the life of one device instance: it is not CONSTRUCT and raises no ConfigError. -/
def keepsInstance : Instr → Bool
  | .construct _ _ _ _ _ => false
  | .setBaud b => decide (0 < b)
  | .rdData => true
  | .rdStatus => true
  | .wrData _ => true
  | .wrControl _ => true
  | .tick => true
  | .reset => true
  | .now => true

/-- The operation cancels no countdown: a bus cycle, a TICK, a NOW or a legal SET_BAUD ("No RESET may intervene", R92). -/
def undisturbing (i : Instr) : Bool := keepsInstance i && decide (i ≠ .reset)

/-- How many TICKs a list of operations holds. -/
def ticksIn (is : List Instr) : Nat := is.count .tick

/-- The byte of the last WR_DATA of the list, or `v` when it holds none (R93). -/
def lastWritten (v : Byte) : List Instr → Byte
  | [] => v
  | .wrData w :: is => lastWritten w is
  | .rdData :: is => lastWritten v is
  | .rdStatus :: is => lastWritten v is
  | .wrControl _ :: is => lastWritten v is
  | .tick :: is => lastWritten v is
  | .reset :: is => lastWritten v is
  | .setBaud _ :: is => lastWritten v is
  | .construct _ _ _ _ _ :: is => lastWritten v is
  | .now :: is => lastWritten v is

/-- The byte the backend hands over if a TICK happens in this state (R37, R74): none unless the receiver is Active and the backend has
one. -/
def offeredByte (s : State) : Option Byte :=
  match s.rxPhase, pollAnswer s with
  | .active, .data b => some b
  | _, _ => none

/-- The bytes the backend hands over during a run, in order (R48). -/
def takenBytes : List Instr → State → List Byte
  | [], _ => []
  | i :: is, s =>
    match exec i s with
    | .next t => (if i = .tick then (offeredByte s).toList else []) ++ takenBytes is t
    | .fault _ => []
    | .refused _ => []

/-- The operation starts a countdown in this state: a WR_DATA that finds TxRDY = 1 (R100). -/
def startsFrame (i : Instr) (s : State) : Bool :=
  match i with
  | .wrData _ => s.txRDY
  | .rdData => false
  | .rdStatus => false
  | .wrControl _ => false
  | .tick => false
  | .reset => false
  | .setBaud _ => false
  | .construct _ _ _ _ _ => false
  | .now => false

/-- How many countdowns a run starts. -/
def framesStarted : List Instr → State → Nat
  | [], _ => 0
  | i :: is, s =>
    match exec i s with
    | .next t => (startsFrame i s).toNat + framesStarted is t
    | .fault _ => 0
    | .refused _ => 0

/-- One byte is in flight while Sending, none while Idle (R95). -/
def inFlight (s : State) : Nat :=
  match s.txPhase with
  | .idle => 0
  | .sending => 1

/-- The two states look alike to the CPU (R103): the same status byte, the same DataIn, both or neither stopped. -/
abbrev SameCpuView (s t : State) : Prop :=
  statusByte s = statusByte t ∧ s.dataIn = t.dataIn ∧ s.faulted = t.faulted

end Sys2Proof.Machine
end

