-- ==== Sys2Proof/Certificates/Slice0/Obligations.lean ====
section
/-! DEFINITION. The statements for the provers. A statement that says "decision" rests on a choice the spec marks as its own (D<n> of
92_eei_decisions.md); one that names a log entry rests on a choice of this model. -/

open Sys2Proof Sys2Proof.Machine

/-! ## Encoding -/

/-- The words of the opcode map, written out bit by bit as A0, W and D, decode to their operations, and a read word with D != 0 is
refused (R51, R53; the word format is the spec's own, decision D16). -/
def Obligations.OpcodeMapWordsDecode : Prop :=
  decode 0b0000000000#10 = some .rdData ∧ decode 0b1000000000#10 = some .rdStatus ∧
    decode 0b0101000001#10 = some (.wrData 0b01000001#8) ∧ decode 0b1100010000#10 = some (.wrControl 0b00010000#8) ∧
    decode 0b0000000001#10 = none ∧ decode 0b1010000000#10 = none

/-- Every word decodes to the operation of the one opcode-table row that covers it, with D as its operand, or, when no row covers it, to
nothing; and that happens exactly for the words that are not well formed (R51, R53; decision D16). -/
def Obligations.DecoderFollowsOpcodeTable : Prop :=
  ∀ w : BusWord,
    (decode w).map Instr.mnemonic = (opcodeRows.find? (·.covers w)).map (·.mnemonic) ∧
      (opcodeRows.filter (·.covers w)).length ≤ 1 ∧ ((decode w).isSome = w.wf) ∧
      (∀ v, decode w = some (.wrData v) ∨ decode w = some (.wrControl v) → v = w.extractLsb' 0 8)

/-- Decode and encode agree in both directions: what the host presents for an operation reads back as that operation with every operand,
each event stands for one operation only, and the words of the bus cycles round-trip by themselves (R49 to R52; decision D16). -/
def Obligations.PresentedOperationReadsBack : Prop :=
  (∀ i : Instr, decodeEvent (encodeEvent i) = some i) ∧
    (∀ (e : Event) (i : Instr), decodeEvent e = some i → encodeEvent i = e) ∧
    (∀ (i : Instr) (w : BusWord), encode i = some w ↔ decode w = some i)

/-! ## The step -/

/-- A step takes the first pending event and is exec of the operation it stands for, on the state without that event (R10, R43; the list
of pending events is the model's form of the host, log entry 1). -/
def Obligations.StepRunsFirstPendingEvent : Prop :=
  ∀ (s : State) (e : Event) (rest : List Event) (i : Instr),
    s.pending = e :: rest → decodeEvent e = some i → step s = exec i { s with pending := rest }

/-- With nothing pending a live device does not change, and a read word with D != 0 is refused by name (R118, R53; decision D16, log
entry 1). -/
def Obligations.StepIdlesAndRefusesBadWords : Prop :=
  (∀ s : State, s.faulted = false → s.pending = [] → step s = .next s) ∧
    ∀ (s : State) (w : BusWord) (rest : List Event),
      s.faulted = false → s.pending = .bus w :: rest → w.getLsbD 8 = false → w.extractLsb' 0 8 ≠ 0#8 →
        step s = .refused (.readWordWithData (.bus w))

/-- A queue of presented operations runs in its order, one a step, each seeing all that came before: as many steps as operations are the
operations one after the other, and what was pending behind them stays pending (R43; log entry 1). -/
def Obligations.QueuedEventsRunInOrder : Prop :=
  ∀ (is : List Instr) (rest : List Event) (s : State),
    Sys2Proof.core.run is.length { s with pending := is.map encodeEvent ++ rest } =
      runInstrs is { s with pending := rest }

/-! ## Bus cycles -/

/-- RD_DATA (word 0x000) returns DataIn and clears RxRDY and nothing else, whatever RxRDY was, and a second RD_DATA returns the same byte
and changes nothing more (R98). -/
def Obligations.RdDataReturnsDataInAndClearsReady : Prop :=
  decode 0x000#10 = some .rdData ∧
    ∀ s : State, s.faulted = false → ∃ t, exec .rdData s = .next t ∧
      t = { s with rxRDY := false, result := .byte s.dataIn } ∧ exec .rdData t = .next t

/-- RD_STATUS (word 0x200) returns the composition of the eight flags and changes nothing, so that it can be repeated (R99, R71). -/
def Obligations.RdStatusReturnsFlagsWithoutMutation : Prop :=
  decode 0x200#10 = some .rdStatus ∧
    ∀ s : State, s.faulted = false → ∃ t, exec .rdStatus s = .next t ∧
      t = { s with result := .byte (statusByte s) } ∧ exec .rdStatus t = .next t

/-- StatusByte() is the weighted sum of the eight flags, computed from them alone (R63, with the layout of R64 and R65). -/
def Obligations.StatusByteIsComposedFromFlags : Prop :=
  (∀ s : State, (statusByte s).toNat =
    s.dsr.toNat * 0x80 + s.syndet.toNat * 0x40 + s.fe.toNat * 0x20 + s.oe.toNat * 0x10 +
      s.pe.toNat * 0x08 + s.txE.toNat * 0x04 + s.rxRDY.toNat * 0x02 + s.txRDY.toNat * 0x01) ∧
    ∀ s t : State,
      (s.dsr, s.syndet, s.fe, s.oe, s.pe, s.txE, s.rxRDY, s.txRDY) =
        (t.dsr, t.syndet, t.fe, t.oe, t.pe, t.txE, t.rxRDY, t.txRDY) → statusByte s = statusByte t

/-- The status has no commit delay: a RD_STATUS right after a WR_DATA shows bits 0 and 2 clear, right after a RD_DATA bit 1 clear, and
right after any operation the flags as that operation left them (R66). -/
def Obligations.StatusReadSeesThePrecedingEvent : Prop :=
  (∀ (i : Instr) (s t : State), exec i s = .next t → t.faulted = false →
    ∃ u, exec .rdStatus t = .next u ∧ u.result = .byte (statusByte t)) ∧
  (∀ (v : Byte) (s : State), s.faulted = false → s.TxInv → ∃ t b, runInstrs [.wrData v, .rdStatus] s = .next t ∧
    t.result = .byte b ∧ b.getLsbD 0 = false ∧ b.getLsbD 2 = false) ∧
  (∀ s : State, s.faulted = false → ∃ t b, runInstrs [.rdData, .rdStatus] s = .next t ∧
    t.result = .byte b ∧ b.getLsbD 1 = false)

/-- WR_DATA v: DataOut is v; when TxRDY = 1 a frame starts, with a countdown of TicksPerHalfBit * 2 * BitsPerFrame; when TxRDY = 0 nothing
else changes, the countdown least of all (R100; the busy case is the spec's own, decision D9). -/
def Obligations.WrDataStartsFrameOrOverwrites : Prop :=
  ∀ (v : Byte) (s : State), s.faulted = false →
    (s.txRDY = true → exec (.wrData v) s = .next { s with
      dataOut := v, txRDY := false, txE := false, txPhase := .sending,
      txRemaining := s.ticksPerHalfBit * 2 * s.bitsPerFrame }) ∧
    (s.txRDY = false → exec (.wrData v) s = .next { s with dataOut := v })

/-- WR_CONTROL v clears FE, OE and PE when bit 4 of v is set, and changes nothing when it is clear, whatever the other seven bits are
(R69, R101; the bit is the spec's own, decision D11, log entry 9). -/
def Obligations.WrControlBitFourResetsErrors : Prop :=
  ∀ (v : Byte) (s : State), s.faulted = false →
    (v &&& 0x10#8 = 0x10#8 → exec (.wrControl v) s = .next { s with fe := false, oe := false, pe := false }) ∧
    (v &&& 0x10#8 = 0x00#8 → exec (.wrControl v) s = .next s)

/-- The register map: a read of offset 0 returns DataIn and clears RxRDY, a read of offset 1 returns the status byte, a write to offset 0
latches the byte and leaves TxRDY clear, a write to offset 1 changes nothing but FE, OE and PE; and a read of offset 0 never returns what
was written there (R36; R36 calls the control bits of offset 1 implementation-defined, and that they reach the error flags only is the
spec's own choice, decisions D11 and D24, log entry 9). -/
def Obligations.RegisterMapByOffsetAndDirection : Prop :=
  ∀ (v : Byte) (s : State), s.faulted = false →
    (∃ t, memRead 0#1 s = .next t ∧ t.result = .byte s.dataIn ∧ t.rxRDY = false) ∧
    (∃ t, memRead 1#1 s = .next t ∧ t.result = .byte (statusByte s)) ∧
    (∃ t, memWrite 0#1 v s = .next t ∧ t.dataOut = v ∧ t.txRDY = false ∧
      ∃ u, memRead 0#1 t = .next u ∧ u.result = .byte s.dataIn) ∧
    (∃ t, memWrite 1#1 v s = .next t ∧ t = { s with fe := t.fe, oe := t.oe, pe := t.pe })

/-- Single writer per field: each bus cycle and each pass leaves every field but its own as it was, the environment's included (R104). -/
def Obligations.EachFieldHasItsWriter : Prop :=
  ∀ s t : State,
    (exec .rdData s = .next t → t = { s with rxRDY := t.rxRDY, result := t.result }) ∧
    (exec .rdStatus s = .next t → t = { s with result := t.result }) ∧
    (∀ v, exec (.wrData v) s = .next t → t = { s with
      dataOut := t.dataOut, txRDY := t.txRDY, txE := t.txE, txPhase := t.txPhase, txRemaining := t.txRemaining }) ∧
    (∀ v, exec (.wrControl v) s = .next t → t = { s with fe := t.fe, oe := t.oe, pe := t.pe }) ∧
    (receivePass s = t → t = { s with
      dataIn := t.dataIn, rxRDY := t.rxRDY, oe := t.oe, rxPhase := t.rxPhase, rxRemaining := t.rxRemaining,
      rxExhausted := t.rxExhausted, sourcePos := t.sourcePos, pollAnswers := t.pollAnswers }) ∧
    (transmitPass s = t → t = { s with
      txRDY := t.txRDY, txE := t.txE, txPhase := t.txPhase, txRemaining := t.txRemaining, sink := t.sink })

/-! ## TICK -/

/-- The receive side of a TICK, row by row of the table of R73 (the tuple is DataIn, RxRDY, OE, RxPhase, RxRemaining, RxExhausted; the
poll-free first TICK, the phase after an overrun and the counting of dead time are the spec's own, decisions D4 to D8). -/
def Obligations.TickReceiveTransitions : Prop :=
  ∀ s : State, s.faulted = false → ∃ t, exec .tick s = .next t ∧
    (let rx := (t.dataIn, t.rxRDY, t.oe, t.rxPhase, t.rxRemaining, t.rxExhausted)
    (s.rxPhase = .idle → s.rxExhausted = false → rx = (s.dataIn, s.rxRDY, s.oe, .active, s.rxRemaining, false)) ∧
    (s.rxPhase = .idle → s.rxExhausted = true → rx = (s.dataIn, s.rxRDY, s.oe, .idle, s.rxRemaining, true)) ∧
    (s.rxPhase = .deadTime → 1 < s.rxRemaining →
      rx = (s.dataIn, s.rxRDY, s.oe, .deadTime, s.rxRemaining - 1, s.rxExhausted)) ∧
    (s.rxPhase = .deadTime → s.rxRemaining = 1 → rx = (s.dataIn, s.rxRDY, s.oe, .active, 0, s.rxExhausted)) ∧
    (∀ b, s.rxPhase = .active → pollAnswer s = .data b → s.rxRDY = false → 0 < s.deadTicks →
      rx = (b, true, s.oe, .deadTime, s.deadTicks, s.rxExhausted)) ∧
    (∀ b, s.rxPhase = .active → pollAnswer s = .data b → s.rxRDY = false → s.deadTicks = 0 →
      rx = (b, true, s.oe, .active, s.rxRemaining, s.rxExhausted)) ∧
    (∀ b, s.rxPhase = .active → pollAnswer s = .data b → s.rxRDY = true →
      rx = (s.dataIn, true, true, .active, s.rxRemaining, s.rxExhausted)) ∧
    (s.rxPhase = .active → pollAnswer s = .endOfInput →
      rx = (s.dataIn, s.rxRDY, s.oe, .idle, s.rxRemaining, true)) ∧
    (s.rxPhase = .active → pollAnswer s = .noData →
      rx = (s.dataIn, s.rxRDY, s.oe, .active, s.rxRemaining, s.rxExhausted)))

/-- The transmit side of a TICK: nothing while Idle; one TICK fewer while the countdown runs; at its end the byte in DataOut goes to the
sink, DataOut is kept and both flags rise together, having both read 0 before (R90, R91; the tuple is DataOut, TxRDY, TxE, TxPhase,
TxRemaining, Sink). -/
def Obligations.TickTransmitTransitions : Prop :=
  ∀ s : State, s.faulted = false → ∃ t, exec .tick s = .next t ∧
    (let tx := (t.dataOut, t.txRDY, t.txE, t.txPhase, t.txRemaining, t.sink)
    (s.txPhase = .idle → tx = (s.dataOut, s.txRDY, s.txE, .idle, s.txRemaining, s.sink)) ∧
    (s.txPhase = .sending → 1 < s.txRemaining →
      tx = (s.dataOut, s.txRDY, s.txE, .sending, s.txRemaining - 1, s.sink)) ∧
    (s.txPhase = .sending → s.txRemaining = 1 →
      tx = (s.dataOut, true, true, .idle, 0, s.sink ++ [s.dataOut]) ∧
        (s.TxInv → s.txRDY = false ∧ s.txE = false)))

/-- A TICK adds one to TickCounter and leaves the constant and error bits other than OE, the fault record, the configuration, the latest
answer and the pending events as they were (R58; the unit of time is the spec's own, decision D1). -/
def Obligations.TickCountsAndLeavesTheRest : Prop :=
  ∀ s : State, s.faulted = false → ∃ t, exec .tick s = .next t ∧ t = { s with
    tickCounter := s.tickCounter + 1
    dataIn := t.dataIn, rxRDY := t.rxRDY, oe := t.oe
    rxPhase := t.rxPhase, rxRemaining := t.rxRemaining, rxExhausted := t.rxExhausted
    sourcePos := t.sourcePos, pollAnswers := t.pollAnswers
    txRDY := t.txRDY, txE := t.txE, txPhase := t.txPhase, txRemaining := t.txRemaining, sink := t.sink }

/-- A TICK takes from the backend only while Active: one answer of an interactive terminal, or one byte of a redirect source that still
holds one (R37, R74; the three-valued poll is the spec's own, decision D5, its form as fields log entry 3). -/
def Obligations.TickPollsOnlyWhileActive : Prop :=
  ∀ s : State, s.faulted = false → ∃ t, exec .tick s = .next t ∧
    (s.rxPhase ≠ .active → t.sourcePos = s.sourcePos ∧ t.pollAnswers = s.pollAnswers) ∧
    (s.rxPhase = .active → s.inputSource = .interactive →
      t.sourcePos = s.sourcePos ∧ t.pollAnswers = s.pollAnswers.tail) ∧
    (∀ bytes, s.rxPhase = .active → s.inputSource = .redirect bytes →
      t.pollAnswers = s.pollAnswers ∧
        t.sourcePos = if s.sourcePos < bytes.length then s.sourcePos + 1 else s.sourcePos)

/-- What the backend may answer: a redirect source its next byte and, once exhausted, EndOfInput, never NoData; an interactive terminal
NoData or a byte, never EndOfInput (R37; decision D5, log entry 3). -/
def Obligations.PollAnswersFollowInputSource : Prop :=
  (∀ (s : State) (bytes : List Byte), s.inputSource = .redirect bytes →
    (∀ h : s.sourcePos < bytes.length, pollAnswer s = .data bytes[s.sourcePos]) ∧
      (bytes.length ≤ s.sourcePos → pollAnswer s = .endOfInput)) ∧
  (∀ s : State, s.inputSource = .interactive →
    (∀ b rest, s.pollAnswers = some b :: rest → pollAnswer s = .data b) ∧
      (∀ rest, s.pollAnswers = none :: rest → pollAnswer s = .noData) ∧ pollAnswer s ≠ .endOfInput)

/-- The two passes of a TICK commute: their order does not change the result (R44, which the spec derives from the arms). -/
def Obligations.PassesCommute : Prop :=
  ∀ s : State, receivePass (transmitPass s) = transmitPass (receivePass s)

/-- What the passes read: two states that agree on the receive phase and countdown, the exhausted flag, RxRDY, DeadTicks, DataIn, OE and
the backend's input come out of a receive pass alike on all the receive side, whatever the clock, the baud rate and the transmitter
hold; and likewise the transmit pass from TxPhase, TxRemaining, DataOut, the two flags and the sink (R86, R96, derived by the spec). -/
def Obligations.PassesReadOnlyTheirOwnSide : Prop :=
  (∀ s t : State,
    (s.rxPhase, s.rxRemaining, s.rxExhausted, s.rxRDY, s.dataIn, s.oe, s.deadTicks) =
      (t.rxPhase, t.rxRemaining, t.rxExhausted, t.rxRDY, t.dataIn, t.oe, t.deadTicks) →
    (s.inputSource, s.sourcePos, s.pollAnswers) = (t.inputSource, t.sourcePos, t.pollAnswers) →
    (let u := receivePass s
     let v := receivePass t
     (u.rxPhase, u.rxRemaining, u.rxExhausted, u.rxRDY, u.dataIn, u.oe, u.sourcePos, u.pollAnswers) =
       (v.rxPhase, v.rxRemaining, v.rxExhausted, v.rxRDY, v.dataIn, v.oe, v.sourcePos, v.pollAnswers))) ∧
  (∀ s t : State,
    (s.txPhase, s.txRemaining, s.dataOut, s.txRDY, s.txE, s.sink) =
      (t.txPhase, t.txRemaining, t.dataOut, t.txRDY, t.txE, t.sink) →
    (let u := transmitPass s
     let v := transmitPass t
     (u.txPhase, u.txRemaining, u.txRDY, u.txE, u.sink) = (v.txPhase, v.txRemaining, v.txRDY, v.txE, v.sink)))

/-! ## The clock and the baud rate -/

/-- The laws of the conversion SET_BAUD applies: positive, non-increasing in the baud rate, 1 exactly when 4 * B > TimeBase, and at most
max(1, TimeBase div 2) (R57, derived by the spec from R56, whose rounding is decision D2). -/
def Obligations.TicksForIsPositiveAndMonotone : Prop :=
  ∀ timeBase : Nat, 0 < timeBase →
    (∀ b, 0 < b → 1 ≤ ticksFor timeBase b) ∧
    (∀ b c, 0 < b → b ≤ c → ticksFor timeBase c ≤ ticksFor timeBase b) ∧
    (∀ b, 0 < b → (ticksFor timeBase b = 1 ↔ timeBase < 4 * b)) ∧
    (∀ b, 0 < b → ticksFor timeBase b ≤ max 1 (timeBase / 2))

/-- The transmit delay is at least 2 TICKs, and when 2 * B <= TimeBase it is at most the ideal BitsPerFrame * TimeBase / B TICKs and short
of it by less than 2 * BitsPerFrame TICKs (R62, derived by the spec from R56, decision D2). -/
def Obligations.TxDelayIsCloseToTheIdealFrame : Prop :=
  ∀ s : State, s.ConfigInv →
    2 ≤ txDelay s ∧
    (2 * s.baudRate ≤ s.timeBase →
      txDelay s * s.baudRate ≤ s.bitsPerFrame * s.timeBase ∧
        s.bitsPerFrame * s.timeBase < (txDelay s + 2 * s.bitsPerFrame) * s.baudRate)

/-- NOW returns TickCounter and changes nothing; after a RESET and k TICKs it returns k, which R59 derives from R58 and R121; a faulted
device has no step, which is the spec's own choice (decision D15, log entry 6). -/
def Obligations.NowReturnsTicksSinceReset : Prop :=
  (∀ s : State, s.faulted = false → exec .now s = .next { s with result := .ticks s.tickCounter }) ∧
  (∀ (s : State) (k : Nat), s.faulted = false →
    ∃ t, runInstrs (.reset :: List.replicate k .tick ++ [.now]) s = .next t ∧ t.result = .ticks k) ∧
  (∀ s : State, s.faulted = true → exec .now s = .fault .deviceFaulted)

/-- TickCounter counts the TICKs of a run and nothing else, whatever bus cycles, queries and baud changes lie between them (R30; its
width is the spec's own, decision D14). -/
def Obligations.TickCounterCountsOnlyTicks : Prop :=
  ∀ (is : List Instr) (s : State), s.faulted = false → is.all undisturbing = true →
    ∃ t, runInstrs is s = .next t ∧ t.tickCounter = s.tickCounter + ticksIn is ∧ t.faulted = false

/-- SET_BAUD B with B > 0 writes BaudRate and TicksPerHalfBit = max(1, TimeBase div (2 * B)) and nothing else (R60; rounding and clamp are
the spec's own, decision D2). -/
def Obligations.SetBaudWritesRateAndHalfBit : Prop :=
  ∀ (b : Nat) (s : State), s.faulted = false → 0 < b →
    exec (.setBaud b) s = .next { s with baudRate := b, ticksPerHalfBit := max 1 (s.timeBase / (2 * b)) }

/-- A legal SET_BAUD leaves both countdowns and both phases as they are; the new TicksPerHalfBit is used by the next WR_DATA that starts a
countdown (R61). -/
def Obligations.SetBaudKeepsRunningCountdowns : Prop :=
  ∀ (b : Int) (s : State), s.faulted = false → 0 < b → ∃ t, exec (.setBaud b) s = .next t ∧
    (t.txRemaining, t.txPhase, t.rxRemaining, t.rxPhase) = (s.txRemaining, s.txPhase, s.rxRemaining, s.rxPhase) ∧
    ∀ v, s.txRDY = true → ∃ u, exec (.wrData v) t = .next u ∧
      u.txRemaining = t.ticksPerHalfBit * 2 * s.bitsPerFrame

/-! ## Faults -/

/-- SET_BAUD B with B <= 0 takes ConfigError: Faulted and FaultInfo are written and nothing else, and from then on no run of further
operations other than CONSTRUCT has a step (R60, R107; that a running device stops is the spec's own, decision D15). -/
def Obligations.SetBaudNotPositiveStopsTheDevice : Prop :=
  ∀ (b : Int) (s : State), s.faulted = false → b ≤ 0 → ∃ t, exec (.setBaud b) s = .next t ∧
    t = { s with faulted := true, faultInfo := some ⟨.baudNotPositive, b⟩ } ∧
    ∀ (i : Instr) (is : List Instr), (∀ t b f n src, i ≠ .construct t b f n src) →
      runInstrs (i :: is) t = .fault .deviceFaulted

/-- While Faulted = 1 no operation but CONSTRUCT has a step, nor has the device a step when another event or nothing is pending (R32;
decision D15, log entries 4 and 6). -/
def Obligations.FaultedDeviceHasNoStep : Prop :=
  ∀ s : State, s.faulted = true →
    (∀ i : Instr, (∀ t b f n src, i ≠ .construct t b f n src) → exec i s = .fault .deviceFaulted) ∧
    ((∀ t b f n src, s.pending.head? ≠ some (.construct t b f n src)) → step s = .fault .deviceFaulted)

/-- On a live device every bus cycle with every operand value and every TICK, in every phase, completes, and none raises the fault
(R105). -/
def Obligations.BusCyclesAndTicksNeverFault : Prop :=
  ∀ (i : Instr) (s : State), s.faulted = false → (i.isBusCycle = true ∨ i = .tick) →
    ∃ t, exec i s = .next t ∧ t.faulted = false ∧ t.faultInfo = s.faultInfo

/-- On a live device every operation goes on, and it leaves the device faulted exactly when its operands are outside their legal ranges
(R106, R108; the ranges but the baud rate's are the spec's own, decision D15). -/
def Obligations.OnlyIllegalOperandsFault : Prop :=
  ∀ (i : Instr) (s : State), s.faulted = false → ∃ t, exec i s = .next t ∧ (t.faulted = true ↔ i.wf = false)

/-- CONSTRUCT with an illegal parameter reports the first failing check, in the order TimeBase, BaudRate, BitsPerFrame, DeadTicks, with the
rejected value, and writes nothing but Faulted and FaultInfo, on a live device and on a faulted one (R106, R107, R120; decision D15; that
CONSTRUCT runs on a faulted device is the model's reading, log entry 4). -/
def Obligations.ConstructReportsFirstFailingCheck : Prop :=
  ∀ (t b f n : Int) (src : InputSource) (s : State) (info : FaultInfo),
    ((t ≤ 0 ∧ info = ⟨.timeBaseNotPositive, t⟩) ∨
      (0 < t ∧ b ≤ 0 ∧ info = ⟨.baudNotPositive, b⟩) ∨
      (0 < t ∧ 0 < b ∧ f ≤ 0 ∧ info = ⟨.bitsPerFrameNotPositive, f⟩) ∨
      (0 < t ∧ 0 < b ∧ 0 < f ∧ n < 0 ∧ info = ⟨.deadTicksNegative, n⟩)) →
    exec (.construct t b f n src) s = .next { s with faulted := true, faultInfo := some info }

/-! ## Reset and construction -/

/-- RESET leaves every element but the configuration, the fault record and the environment at its power-on value (R121; the values of
DataIn, DataOut, DSR and SYNDET and the clearing of RxExhausted are the spec's own, decisions D6, D12, D13, D25). -/
def Obligations.ResetLeavesPowerOnValues : Prop :=
  ∀ s : State, s.faulted = false → exec .reset s = .next { s with
    tickCounter := 0, dataIn := 0x00#8, dataOut := 0x00#8
    txRDY := true, txE := true, rxRDY := false, oe := true, fe := false, pe := false, syndet := false, dsr := false
    rxPhase := .idle, rxRemaining := 0, rxExhausted := false, txPhase := .idle, txRemaining := 0 }

/-- CONSTRUCT with legal parameters, on any device, live or faulted, sets the configuration, derives TicksPerHalfBit and leaves the RESET
values; the new instance has its source unread and its sink empty (R120; decisions D2, D13, D15; running over a fault and the fresh
backend are the model's reading, log entry 4). -/
def Obligations.ConstructBringsTheDeviceUp : Prop :=
  ∀ (t b f n : Nat) (src : InputSource) (s : State), 0 < t → 0 < b → 0 < f →
    exec (.construct t b f n src) s = .next { s with
      faulted := false, faultInfo := none
      timeBase := t, baudRate := b, bitsPerFrame := f, deadTicks := n, inputSource := src
      ticksPerHalfBit := max 1 (t / (2 * b))
      tickCounter := 0, dataIn := 0x00#8, dataOut := 0x00#8
      txRDY := true, txE := true, rxRDY := false, oe := true, fe := false, pe := false, syndet := false, dsr := false
      rxPhase := .idle, rxRemaining := 0, rxExhausted := false, txPhase := .idle, txRemaining := 0
      sourcePos := 0, sink := [] }

/-- The state after RESET is the state after CONSTRUCT with the same configuration, except for the backend's input position and the sink
(R123, derived by the spec; log entry 4). -/
def Obligations.ResetIsConstructionWithSameConfiguration : Prop :=
  ∀ s : State, s.faulted = false → s.Inv → ∃ t u,
    exec .reset s = .next t ∧
      exec (.construct s.timeBase s.baudRate s.bitsPerFrame s.deadTicks s.inputSource) s = .next u ∧
      u = { t with sourcePos := 0, sink := [] }

/-! ## Invariants -/

/-- The state after reset meets the invariant (its configuration is the model's choice, log entry 2). -/
def Obligations.ResetMeetsTheInvariant : Prop := State.reset.Inv

/-- Every step keeps the invariant: I1 to I5 of R33, RxRemaining = 0 outside DeadTime (R26), a legal configuration with its derived
TicksPerHalfBit (R31) and a fault record exactly while faulted (R13); it holds from every state that meets it, whatever is pending. -/
def Obligations.EveryStepKeepsTheInvariant : Prop :=
  ∀ s t : State, s.Inv → step s = .next t → t.Inv

/-- The status bytes a CPU can see, in every state that meets the invariant, are these eight (R65, derived by the spec from R33; the
constant bits rest on decision D12). -/
def Obligations.OnlyEightStatusBytesOccur : Prop :=
  ∀ s : State, s.Inv →
    statusByte s ∈ [0x00#8, 0x02#8, 0x05#8, 0x07#8, 0x10#8, 0x12#8, 0x15#8, 0x17#8]

/-- TxRDY is cleared by a WR_DATA that finds it set and set by an emission and by RESET (CONSTRUCT ends in RESET), by nothing else, and
TxE is written at the same events to the same value; both are 1 after RESET (R19, R20). -/
def Obligations.TransmitFlagsMoveTogether : Prop :=
  ∀ (i : Instr) (s t : State), exec i s = .next t →
    ((t.txRDY = s.txRDY ∧ t.txE = s.txE) ∨ t.txE = t.txRDY) ∧
    (∀ v, i = .wrData v → s.txRDY = true → t.txRDY = false ∧ t.txE = false) ∧
    (i = .reset → t.txRDY = true ∧ t.txE = true) ∧
    (i = .tick → s.txPhase = .sending → s.txRemaining = 1 → t.txRDY = true ∧ t.txE = true) ∧
    (s.txRDY = true → t.txRDY = false → ∃ v, i = .wrData v) ∧
    (s.txRDY = false → t.txRDY = true →
      (i = .tick ∧ t.sink = s.sink ++ [s.dataOut]) ∨ i = .reset ∨ ∃ t b f n src, i = .construct t b f n src)

/-- The rx-ready line is RxRDY in every state; the TICK that latches a byte raises it, RD_DATA and RESET drop it and so does a CONSTRUCT
with legal operands; and it rises in no other event than a latching TICK and falls in no other than RD_DATA, RESET and CONSTRUCT, so not at
an overrun (R34, R102, derived by the spec from R34; polarity and the absence of an enable are decision D20, log entry 14; that CONSTRUCT
runs on any device is log entry 4). -/
def Obligations.RxReadyLineEdges : Prop :=
  (∀ s : State, rxrdyOut s = s.rxRDY) ∧
  (∀ (b : Byte) (s : State),
    s.faulted = false → s.rxPhase = .active → s.rxRDY = false → pollAnswer s = .data b →
      ∃ t, exec .tick s = .next t ∧ rxrdyOut t = true ∧ t.dataIn = b) ∧
  (∀ s : State, s.faulted = false → ∃ t, exec .rdData s = .next t ∧ rxrdyOut t = false) ∧
  (∀ s : State, s.faulted = false → ∃ t, exec .reset s = .next t ∧ rxrdyOut t = false) ∧
  (∀ (tb b f n : Int) (src : InputSource) (s : State), (Instr.construct tb b f n src).wf = true →
    ∃ t, exec (.construct tb b f n src) s = .next t ∧ rxrdyOut t = false) ∧
  (∀ (i : Instr) (s t : State), exec i s = .next t →
    (rxrdyOut s = false → rxrdyOut t = true →
      i = .tick ∧ s.rxPhase = .active ∧ pollAnswer s = .data t.dataIn) ∧
    (rxrdyOut s = true → rxrdyOut t = false →
      i = .rdData ∨ i = .reset ∨ ∃ tb b f n src, i = .construct tb b f n src))

/-- OE is set only by an overrun, whose byte is lost, by RESET and by construction, and cleared only by a control write with bit 4 set
(R22, R78; the clearing bit is the spec's own, decision D11). -/
def Obligations.OverrunFlagIsSticky : Prop :=
  ∀ (i : Instr) (s t : State), exec i s = .next t →
    (s.oe = true → t.oe = false → ∃ v : Byte, i = .wrControl v ∧ v &&& 0x10#8 = 0x10#8) ∧
    (s.oe = false → t.oe = true →
      (i = .tick ∧ s.rxPhase = .active ∧ s.rxRDY = true ∧ (∃ b, pollAnswer s = .data b) ∧ t.dataIn = s.dataIn) ∨
        i = .reset ∨ ∃ t b f n src, i = .construct t b f n src)

/-! ## Runs -/

/-- Emission time and last write wins. After a WR_DATA that finds TxRDY = 1, any run of bus cycles, TICKs, queries and legal baud changes
with fewer than TxDelay TICKs emits nothing, keeps both flags at 0 and leaves the countdown at TxDelay less those TICKs; the TICK that
completes TxDelay emits exactly one byte, the last one written, and raises both flags (R92, R93, derived by the spec; decision D9). -/
def Obligations.FrameIsEmittedAfterTxDelayLastWriteWins : Prop :=
  ∀ (v : Byte) (is : List Instr) (s : State),
    s.faulted = false → s.txRDY = true → is.all undisturbing = true → ticksIn is < txDelay s →
    ∃ t, runInstrs (.wrData v :: is) s = .next t ∧
      t.sink = s.sink ∧ t.txRDY = false ∧ t.txE = false ∧ t.txPhase = .sending ∧
      t.dataOut = lastWritten v is ∧ t.txRemaining = txDelay s - ticksIn is ∧
      (ticksIn is + 1 = txDelay s → ∃ u, exec .tick t = .next u ∧
        u.sink = s.sink ++ [lastWritten v is] ∧ u.txRDY = true ∧ u.txE = true ∧ u.txPhase = .idle)

/-- The dead-time window. After a latch with DeadTicks = N, any run of bus cycles, TICKs, queries and legal baud changes with at most N
TICKs takes nothing more from the backend and keeps DataIn; polling resumes exactly when N TICKs have passed (R81, derived by the spec;
decision D8). -/
def Obligations.NoPollDuringDeadTime : Prop :=
  ∀ (b : Byte) (is : List Instr) (s : State),
    s.faulted = false → s.rxPhase = .active → s.rxRDY = false → pollAnswer s = .data b →
    is.all undisturbing = true → ticksIn is ≤ s.deadTicks →
    ∃ t, runInstrs (.tick :: is) s = .next t ∧ takenBytes (.tick :: is) s = [b] ∧ t.dataIn = b ∧
      (t.sourcePos, t.pollAnswers) = ((afterPoll s).sourcePos, (afterPoll s).pollAnswers) ∧
      (t.rxPhase = if ticksIn is = s.deadTicks then .active else .deadTime)

/-- One-byte depth and the overrun condition. While DataIn is unread, let a run take no byte, and let its last state offer one at a poll:
if the run held a RD_DATA the byte is latched without touching OE, and if it held none the byte is lost, DataIn is kept and OE is set
(R82, R83, derived by the spec; decision D7). -/
def Obligations.NextByteOverrunsUnlessDataWasRead : Prop :=
  ∀ (b : Byte) (is : List Instr) (s t : State),
    s.faulted = false → s.rxRDY = true → is.all undisturbing = true →
    runInstrs is s = .next t → takenBytes is s = [] → offeredByte t = some b →
    ∃ u, exec .tick t = .next u ∧ u.rxRDY = true ∧
      (.rdData ∈ is → u.dataIn = b ∧ u.oe = t.oe) ∧
      (.rdData ∉ is → u.dataIn = s.dataIn ∧ u.oe = true)

/-- The bytes a run takes from a redirect source are the next bytes of that source in order, none skipped or repeated, at most one a TICK,
even across RESET, which does not rewind the source (R37, R48, R123; decision D5, log entry 3). -/
def Obligations.RedirectBytesAreTakenInOrder : Prop :=
  ∀ (bytes : List Byte) (is : List Instr) (s : State),
    s.faulted = false → s.inputSource = .redirect bytes → is.all keepsInstance = true →
    ∃ t, runInstrs is s = .next t ∧
      takenBytes is s = (bytes.drop s.sourcePos).take (takenBytes is s).length ∧
      t.sourcePos = s.sourcePos + (takenBytes is s).length ∧ (takenBytes is s).length ≤ ticksIn is

/-- Every countdown that a run starts ends in exactly one emission or is still in flight at its end, and the sink only grows at its end
(R48, R95, derived by the spec). -/
def Obligations.OneEmissionPerCountdown : Prop :=
  ∀ (is : List Instr) (s : State), s.faulted = false → s.Inv → is.all undisturbing = true →
    ∃ t out, runInstrs is s = .next t ∧ t.sink = s.sink ++ out ∧
      out.length + inFlight t = inFlight s + framesStarted is s

/-- Once the input is exhausted the receiver stays Idle: no run without RESET or construction polls again, changes DataIn or raises
RxRDY (R79, R85; decisions D5, D6). -/
def Obligations.ExhaustionEndsReceptionUntilReset : Prop :=
  ∀ (is : List Instr) (s : State),
    s.faulted = false → s.rxPhase = .idle → s.rxExhausted = true → is.all undisturbing = true →
    ∃ t, runInstrs is s = .next t ∧ t.rxPhase = .idle ∧ t.rxExhausted = true ∧ t.dataIn = s.dataIn ∧
      (t.sourcePos, t.pollAnswers) = (s.sourcePos, s.pollAnswers) ∧ takenBytes is s = [] ∧
      (t.rxRDY = true → s.rxRDY = true)

/-- The CPU observes the block only through the status byte and DataIn: from two states that look alike, whatever DataOut, the clock, the
phases, the countdowns and the configuration hold, the same bus cycles give the same answers and leave the states alike (R103, derived
by the spec). -/
def Obligations.BusCyclesRevealOnlyTheCpuView : Prop :=
  ∀ (is : List Instr) (s t : State),
    SameCpuView s t → s.faulted = false → s.result = t.result → is.all Instr.isBusCycle = true →
    ∃ u v, runInstrs is s = .next u ∧ runInstrs is t = .next v ∧ SameCpuView u v ∧ u.result = v.result

/-- A RD_DATA ordered before a latching TICK returns the old byte and the latch succeeds; ordered after it, it returns the new one
(R111, derived by the spec). -/
def Obligations.ReadBeforeOrAfterLatchDiffer : Prop :=
  ∀ (b : Byte) (s : State),
    s.faulted = false → s.rxPhase = .active → s.rxRDY = false → pollAnswer s = .data b →
    (∃ t, runInstrs [.rdData, .tick] s = .next t ∧ t.result = .byte s.dataIn ∧ t.dataIn = b ∧ t.rxRDY = true) ∧
    (∃ t, runInstrs [.tick, .rdData] s = .next t ∧ t.result = .byte b ∧ t.dataIn = b ∧ t.rxRDY = false)

/-! ## Host scripts -/

/-- The script lines with a fixed expansion, the base forms and the pseudo-forms `TICK n` and `CLR_ERR`, run as the events they stand for
(R55; the syntax is the spec's own, decision D23; a script is held as lines, log entry 18). The three polling pseudo-forms have no fixed
expansion: Obligations.PollingLoopReadsTestsAndTicks says what they do. -/
def Obligations.ScriptPseudoFormsExpand : Prop :=
  (∀ n, (ScriptLine.ticks n).expand = some (List.replicate n .tick)) ∧
    ScriptLine.clrErr.expand = some [.wrControl 0x10#8] ∧
    ∀ (line : ScriptLine) (is : List Instr) (vars : HostVars) (s : State) (fuel : Nat),
      line.expand = some is → (runLine fuel line vars s).map (·.2) = nextState (runInstrs is s)

/-- The loop equation of the three polling pseudo-forms, WAIT_TXRDY, WAIT_RXRDY and WAIT_TXE, which test bits 0, 1 and 2: one round is a
RD_STATUS and a test of the byte it returns; with the bit set the loop is done, with the bit clear one TICK follows and the loop goes round
again; a script line runs the loop and leaves the variables (R55, decision D23; the bound on the rounds and the loop's `s` being scratch
are the model's choice, log entry 18). -/
def Obligations.PollingLoopReadsTestsAndTicks : Prop :=
  (StatusWait.txRdy.bit = 0 ∧ StatusWait.rxRdy.bit = 1 ∧ StatusWait.txE.bit = 2) ∧
  (∀ (w : StatusWait) (s : State), waitLoop w 0 s = none) ∧
  (∀ (w : StatusWait) (fuel : Nat) (s : State), s.faulted = false → ∃ t b,
    exec .rdStatus s = .next t ∧ t.result = .byte b ∧
      (b.getLsbD w.bit = true → waitLoop w (fuel + 1) s = some t) ∧
      (b.getLsbD w.bit = false → ∃ u, exec .tick t = .next u ∧ waitLoop w (fuel + 1) s = waitLoop w fuel u)) ∧
  (∀ (w : StatusWait) (fuel : Nat) (s : State), s.faulted = true → waitLoop w fuel s = none) ∧
  (∀ (w : StatusWait) (fuel : Nat) (vars : HostVars) (s t : State),
    runLine fuel (.wait w) vars s = some (vars, t) ↔ waitLoop w fuel s = some t)

/-- WAIT_TXE ends: from every live state that meets the invariant the loop is done after exactly TxRemaining TICKs, with TxRDY and TxE set
and the byte in flight, if any, at the end of the sink (R55, R62, R92; decision D23). -/
def Obligations.WaitTxEEndsAfterTxRemainingTicks : Prop :=
  ∀ s : State, s.faulted = false → s.Inv → ∃ t, waitLoop .txE (s.txRemaining + 1) s = some t ∧
    t.tickCounter = s.tickCounter + s.txRemaining ∧ t.txE = true ∧ t.txRDY = true ∧
    t.sink = s.sink ++ (if s.txPhase = .sending then [s.dataOut] else [])

/-- What a polling loop amounts to: within `fuel` rounds WAIT_TXRDY, WAIT_RXRDY or WAIT_TXE ends in t exactly when for some k below `fuel` the
first k reads of the status show the bit clear, each followed by a TICK, and the next read, which leaves t, shows it set; so it issues k
TICKs and k + 1 reads and nothing else (R55, decision D23; the bound on the rounds is log entry 18). -/
def Obligations.PollingLoopEndsAtFirstSetBit : Prop :=
  ∀ (w : StatusWait) (fuel : Nat) (s t : State), s.faulted = false →
    let rounds := fun k => (List.replicate k [Instr.rdStatus, Instr.tick]).flatten ++ [Instr.rdStatus]
    (waitLoop w fuel s = some t ↔
      ∃ k, k < fuel ∧ runInstrs (rounds k) s = .next t ∧ (statusByte t).getLsbD w.bit = true ∧
        ∀ j, j < k → ∃ u, runInstrs (rounds j) s = .next u ∧ (statusByte u).getLsbD w.bit = false)
end

