-- ==== Sys2Proof/Laws/Encoding.lean ====
section
/-! SUPPORT. The fields of an assembled word (R49): each comes back as it went in. -/
namespace Sys2Proof

@[simp] theorem assemble_regSelect (a w : Bool) (d : Byte) : (assemble a w d).regSelect = a := by
  exact (BitVec.getLsbD_append (i := 9)).trans (by cases a <;> cases w <;> rfl)

@[simp] theorem assemble_isWrite (a w : Bool) (d : Byte) : (assemble a w d).isWrite = w := by
  exact (BitVec.getLsbD_append (i := 8)).trans (by cases a <;> cases w <;> rfl)

@[simp] theorem assemble_data (a w : Bool) (d : Byte) : (assemble a w d).data = d :=
  BitVec.extractLsb'_append_eq_right

end Sys2Proof
end

