-- ==== Sys2Proof/Laws/State.lean ====
section
/-! SUPPORT. One lemma per field per update of the state, each true by rfl, so that no proof unfolds a record update. -/
namespace Sys2Proof.Machine

@[simp] theorem answer_dataIn (r : Result) (s : State) : (answer r s).dataIn = s.dataIn := rfl
@[simp] theorem answer_dataOut (r : Result) (s : State) : (answer r s).dataOut = s.dataOut := rfl
@[simp] theorem answer_txRDY (r : Result) (s : State) : (answer r s).txRDY = s.txRDY := rfl
@[simp] theorem answer_rxRDY (r : Result) (s : State) : (answer r s).rxRDY = s.rxRDY := rfl
@[simp] theorem answer_txE (r : Result) (s : State) : (answer r s).txE = s.txE := rfl
@[simp] theorem answer_pe (r : Result) (s : State) : (answer r s).pe = s.pe := rfl
@[simp] theorem answer_oe (r : Result) (s : State) : (answer r s).oe = s.oe := rfl
@[simp] theorem answer_fe (r : Result) (s : State) : (answer r s).fe = s.fe := rfl
@[simp] theorem answer_syndet (r : Result) (s : State) : (answer r s).syndet = s.syndet := rfl
@[simp] theorem answer_dsr (r : Result) (s : State) : (answer r s).dsr = s.dsr := rfl
@[simp] theorem answer_rxPhase (r : Result) (s : State) : (answer r s).rxPhase = s.rxPhase := rfl
@[simp] theorem answer_rxRemaining (r : Result) (s : State) : (answer r s).rxRemaining = s.rxRemaining := rfl
@[simp] theorem answer_rxExhausted (r : Result) (s : State) : (answer r s).rxExhausted = s.rxExhausted := rfl
@[simp] theorem answer_txPhase (r : Result) (s : State) : (answer r s).txPhase = s.txPhase := rfl
@[simp] theorem answer_txRemaining (r : Result) (s : State) : (answer r s).txRemaining = s.txRemaining := rfl
@[simp] theorem answer_tickCounter (r : Result) (s : State) : (answer r s).tickCounter = s.tickCounter := rfl
@[simp] theorem answer_faulted (r : Result) (s : State) : (answer r s).faulted = s.faulted := rfl
@[simp] theorem answer_faultInfo (r : Result) (s : State) : (answer r s).faultInfo = s.faultInfo := rfl
@[simp] theorem answer_baudRate (r : Result) (s : State) : (answer r s).baudRate = s.baudRate := rfl
@[simp] theorem answer_timeBase (r : Result) (s : State) : (answer r s).timeBase = s.timeBase := rfl
@[simp] theorem answer_ticksPerHalfBit (r : Result) (s : State) : (answer r s).ticksPerHalfBit = s.ticksPerHalfBit := rfl
@[simp] theorem answer_bitsPerFrame (r : Result) (s : State) : (answer r s).bitsPerFrame = s.bitsPerFrame := rfl
@[simp] theorem answer_deadTicks (r : Result) (s : State) : (answer r s).deadTicks = s.deadTicks := rfl
@[simp] theorem answer_inputSource (r : Result) (s : State) : (answer r s).inputSource = s.inputSource := rfl
@[simp] theorem answer_sourcePos (r : Result) (s : State) : (answer r s).sourcePos = s.sourcePos := rfl
@[simp] theorem answer_pollAnswers (r : Result) (s : State) : (answer r s).pollAnswers = s.pollAnswers := rfl
@[simp] theorem answer_sink (r : Result) (s : State) : (answer r s).sink = s.sink := rfl
@[simp] theorem answer_result (r : Result) (s : State) : (answer r s).result = r := rfl
@[simp] theorem answer_pending (r : Result) (s : State) : (answer r s).pending = s.pending := rfl

@[simp] theorem raiseConfigError_dataIn (info : FaultInfo) (s : State) : (raiseConfigError info s).dataIn = s.dataIn := rfl
@[simp] theorem raiseConfigError_dataOut (info : FaultInfo) (s : State) : (raiseConfigError info s).dataOut = s.dataOut := rfl
@[simp] theorem raiseConfigError_txRDY (info : FaultInfo) (s : State) : (raiseConfigError info s).txRDY = s.txRDY := rfl
@[simp] theorem raiseConfigError_rxRDY (info : FaultInfo) (s : State) : (raiseConfigError info s).rxRDY = s.rxRDY := rfl
@[simp] theorem raiseConfigError_txE (info : FaultInfo) (s : State) : (raiseConfigError info s).txE = s.txE := rfl
@[simp] theorem raiseConfigError_pe (info : FaultInfo) (s : State) : (raiseConfigError info s).pe = s.pe := rfl
@[simp] theorem raiseConfigError_oe (info : FaultInfo) (s : State) : (raiseConfigError info s).oe = s.oe := rfl
@[simp] theorem raiseConfigError_fe (info : FaultInfo) (s : State) : (raiseConfigError info s).fe = s.fe := rfl
@[simp] theorem raiseConfigError_syndet (info : FaultInfo) (s : State) : (raiseConfigError info s).syndet = s.syndet := rfl
@[simp] theorem raiseConfigError_dsr (info : FaultInfo) (s : State) : (raiseConfigError info s).dsr = s.dsr := rfl
@[simp] theorem raiseConfigError_rxPhase (info : FaultInfo) (s : State) : (raiseConfigError info s).rxPhase = s.rxPhase := rfl
@[simp] theorem raiseConfigError_rxRemaining (info : FaultInfo) (s : State) : (raiseConfigError info s).rxRemaining = s.rxRemaining := rfl
@[simp] theorem raiseConfigError_rxExhausted (info : FaultInfo) (s : State) : (raiseConfigError info s).rxExhausted = s.rxExhausted := rfl
@[simp] theorem raiseConfigError_txPhase (info : FaultInfo) (s : State) : (raiseConfigError info s).txPhase = s.txPhase := rfl
@[simp] theorem raiseConfigError_txRemaining (info : FaultInfo) (s : State) : (raiseConfigError info s).txRemaining = s.txRemaining := rfl
@[simp] theorem raiseConfigError_tickCounter (info : FaultInfo) (s : State) : (raiseConfigError info s).tickCounter = s.tickCounter := rfl
@[simp] theorem raiseConfigError_faulted (info : FaultInfo) (s : State) : (raiseConfigError info s).faulted = true := rfl
@[simp] theorem raiseConfigError_faultInfo (info : FaultInfo) (s : State) : (raiseConfigError info s).faultInfo = some info := rfl
@[simp] theorem raiseConfigError_baudRate (info : FaultInfo) (s : State) : (raiseConfigError info s).baudRate = s.baudRate := rfl
@[simp] theorem raiseConfigError_timeBase (info : FaultInfo) (s : State) : (raiseConfigError info s).timeBase = s.timeBase := rfl
@[simp] theorem raiseConfigError_ticksPerHalfBit (info : FaultInfo) (s : State) : (raiseConfigError info s).ticksPerHalfBit = s.ticksPerHalfBit := rfl
@[simp] theorem raiseConfigError_bitsPerFrame (info : FaultInfo) (s : State) : (raiseConfigError info s).bitsPerFrame = s.bitsPerFrame := rfl
@[simp] theorem raiseConfigError_deadTicks (info : FaultInfo) (s : State) : (raiseConfigError info s).deadTicks = s.deadTicks := rfl
@[simp] theorem raiseConfigError_inputSource (info : FaultInfo) (s : State) : (raiseConfigError info s).inputSource = s.inputSource := rfl
@[simp] theorem raiseConfigError_sourcePos (info : FaultInfo) (s : State) : (raiseConfigError info s).sourcePos = s.sourcePos := rfl
@[simp] theorem raiseConfigError_pollAnswers (info : FaultInfo) (s : State) : (raiseConfigError info s).pollAnswers = s.pollAnswers := rfl
@[simp] theorem raiseConfigError_sink (info : FaultInfo) (s : State) : (raiseConfigError info s).sink = s.sink := rfl
@[simp] theorem raiseConfigError_result (info : FaultInfo) (s : State) : (raiseConfigError info s).result = s.result := rfl
@[simp] theorem raiseConfigError_pending (info : FaultInfo) (s : State) : (raiseConfigError info s).pending = s.pending := rfl

@[simp] theorem clearErrors_dataIn (s : State) : (clearErrors s).dataIn = s.dataIn := rfl
@[simp] theorem clearErrors_dataOut (s : State) : (clearErrors s).dataOut = s.dataOut := rfl
@[simp] theorem clearErrors_txRDY (s : State) : (clearErrors s).txRDY = s.txRDY := rfl
@[simp] theorem clearErrors_rxRDY (s : State) : (clearErrors s).rxRDY = s.rxRDY := rfl
@[simp] theorem clearErrors_txE (s : State) : (clearErrors s).txE = s.txE := rfl
@[simp] theorem clearErrors_pe (s : State) : (clearErrors s).pe = false := rfl
@[simp] theorem clearErrors_oe (s : State) : (clearErrors s).oe = false := rfl
@[simp] theorem clearErrors_fe (s : State) : (clearErrors s).fe = false := rfl
@[simp] theorem clearErrors_syndet (s : State) : (clearErrors s).syndet = s.syndet := rfl
@[simp] theorem clearErrors_dsr (s : State) : (clearErrors s).dsr = s.dsr := rfl
@[simp] theorem clearErrors_rxPhase (s : State) : (clearErrors s).rxPhase = s.rxPhase := rfl
@[simp] theorem clearErrors_rxRemaining (s : State) : (clearErrors s).rxRemaining = s.rxRemaining := rfl
@[simp] theorem clearErrors_rxExhausted (s : State) : (clearErrors s).rxExhausted = s.rxExhausted := rfl
@[simp] theorem clearErrors_txPhase (s : State) : (clearErrors s).txPhase = s.txPhase := rfl
@[simp] theorem clearErrors_txRemaining (s : State) : (clearErrors s).txRemaining = s.txRemaining := rfl
@[simp] theorem clearErrors_tickCounter (s : State) : (clearErrors s).tickCounter = s.tickCounter := rfl
@[simp] theorem clearErrors_faulted (s : State) : (clearErrors s).faulted = s.faulted := rfl
@[simp] theorem clearErrors_faultInfo (s : State) : (clearErrors s).faultInfo = s.faultInfo := rfl
@[simp] theorem clearErrors_baudRate (s : State) : (clearErrors s).baudRate = s.baudRate := rfl
@[simp] theorem clearErrors_timeBase (s : State) : (clearErrors s).timeBase = s.timeBase := rfl
@[simp] theorem clearErrors_ticksPerHalfBit (s : State) : (clearErrors s).ticksPerHalfBit = s.ticksPerHalfBit := rfl
@[simp] theorem clearErrors_bitsPerFrame (s : State) : (clearErrors s).bitsPerFrame = s.bitsPerFrame := rfl
@[simp] theorem clearErrors_deadTicks (s : State) : (clearErrors s).deadTicks = s.deadTicks := rfl
@[simp] theorem clearErrors_inputSource (s : State) : (clearErrors s).inputSource = s.inputSource := rfl
@[simp] theorem clearErrors_sourcePos (s : State) : (clearErrors s).sourcePos = s.sourcePos := rfl
@[simp] theorem clearErrors_pollAnswers (s : State) : (clearErrors s).pollAnswers = s.pollAnswers := rfl
@[simp] theorem clearErrors_sink (s : State) : (clearErrors s).sink = s.sink := rfl
@[simp] theorem clearErrors_result (s : State) : (clearErrors s).result = s.result := rfl
@[simp] theorem clearErrors_pending (s : State) : (clearErrors s).pending = s.pending := rfl

@[simp] theorem backendWrite_dataIn (b : Byte) (s : State) : (backendWrite b s).dataIn = s.dataIn := rfl
@[simp] theorem backendWrite_dataOut (b : Byte) (s : State) : (backendWrite b s).dataOut = s.dataOut := rfl
@[simp] theorem backendWrite_txRDY (b : Byte) (s : State) : (backendWrite b s).txRDY = s.txRDY := rfl
@[simp] theorem backendWrite_rxRDY (b : Byte) (s : State) : (backendWrite b s).rxRDY = s.rxRDY := rfl
@[simp] theorem backendWrite_txE (b : Byte) (s : State) : (backendWrite b s).txE = s.txE := rfl
@[simp] theorem backendWrite_pe (b : Byte) (s : State) : (backendWrite b s).pe = s.pe := rfl
@[simp] theorem backendWrite_oe (b : Byte) (s : State) : (backendWrite b s).oe = s.oe := rfl
@[simp] theorem backendWrite_fe (b : Byte) (s : State) : (backendWrite b s).fe = s.fe := rfl
@[simp] theorem backendWrite_syndet (b : Byte) (s : State) : (backendWrite b s).syndet = s.syndet := rfl
@[simp] theorem backendWrite_dsr (b : Byte) (s : State) : (backendWrite b s).dsr = s.dsr := rfl
@[simp] theorem backendWrite_rxPhase (b : Byte) (s : State) : (backendWrite b s).rxPhase = s.rxPhase := rfl
@[simp] theorem backendWrite_rxRemaining (b : Byte) (s : State) : (backendWrite b s).rxRemaining = s.rxRemaining := rfl
@[simp] theorem backendWrite_rxExhausted (b : Byte) (s : State) : (backendWrite b s).rxExhausted = s.rxExhausted := rfl
@[simp] theorem backendWrite_txPhase (b : Byte) (s : State) : (backendWrite b s).txPhase = s.txPhase := rfl
@[simp] theorem backendWrite_txRemaining (b : Byte) (s : State) : (backendWrite b s).txRemaining = s.txRemaining := rfl
@[simp] theorem backendWrite_tickCounter (b : Byte) (s : State) : (backendWrite b s).tickCounter = s.tickCounter := rfl
@[simp] theorem backendWrite_faulted (b : Byte) (s : State) : (backendWrite b s).faulted = s.faulted := rfl
@[simp] theorem backendWrite_faultInfo (b : Byte) (s : State) : (backendWrite b s).faultInfo = s.faultInfo := rfl
@[simp] theorem backendWrite_baudRate (b : Byte) (s : State) : (backendWrite b s).baudRate = s.baudRate := rfl
@[simp] theorem backendWrite_timeBase (b : Byte) (s : State) : (backendWrite b s).timeBase = s.timeBase := rfl
@[simp] theorem backendWrite_ticksPerHalfBit (b : Byte) (s : State) : (backendWrite b s).ticksPerHalfBit = s.ticksPerHalfBit := rfl
@[simp] theorem backendWrite_bitsPerFrame (b : Byte) (s : State) : (backendWrite b s).bitsPerFrame = s.bitsPerFrame := rfl
@[simp] theorem backendWrite_deadTicks (b : Byte) (s : State) : (backendWrite b s).deadTicks = s.deadTicks := rfl
@[simp] theorem backendWrite_inputSource (b : Byte) (s : State) : (backendWrite b s).inputSource = s.inputSource := rfl
@[simp] theorem backendWrite_sourcePos (b : Byte) (s : State) : (backendWrite b s).sourcePos = s.sourcePos := rfl
@[simp] theorem backendWrite_pollAnswers (b : Byte) (s : State) : (backendWrite b s).pollAnswers = s.pollAnswers := rfl
@[simp] theorem backendWrite_sink (b : Byte) (s : State) : (backendWrite b s).sink = s.sink ++ [b] := rfl
@[simp] theorem backendWrite_result (b : Byte) (s : State) : (backendWrite b s).result = s.result := rfl
@[simp] theorem backendWrite_pending (b : Byte) (s : State) : (backendWrite b s).pending = s.pending := rfl

@[simp] theorem advanceClock_dataIn (s : State) : (advanceClock s).dataIn = s.dataIn := rfl
@[simp] theorem advanceClock_dataOut (s : State) : (advanceClock s).dataOut = s.dataOut := rfl
@[simp] theorem advanceClock_txRDY (s : State) : (advanceClock s).txRDY = s.txRDY := rfl
@[simp] theorem advanceClock_rxRDY (s : State) : (advanceClock s).rxRDY = s.rxRDY := rfl
@[simp] theorem advanceClock_txE (s : State) : (advanceClock s).txE = s.txE := rfl
@[simp] theorem advanceClock_pe (s : State) : (advanceClock s).pe = s.pe := rfl
@[simp] theorem advanceClock_oe (s : State) : (advanceClock s).oe = s.oe := rfl
@[simp] theorem advanceClock_fe (s : State) : (advanceClock s).fe = s.fe := rfl
@[simp] theorem advanceClock_syndet (s : State) : (advanceClock s).syndet = s.syndet := rfl
@[simp] theorem advanceClock_dsr (s : State) : (advanceClock s).dsr = s.dsr := rfl
@[simp] theorem advanceClock_rxPhase (s : State) : (advanceClock s).rxPhase = s.rxPhase := rfl
@[simp] theorem advanceClock_rxRemaining (s : State) : (advanceClock s).rxRemaining = s.rxRemaining := rfl
@[simp] theorem advanceClock_rxExhausted (s : State) : (advanceClock s).rxExhausted = s.rxExhausted := rfl
@[simp] theorem advanceClock_txPhase (s : State) : (advanceClock s).txPhase = s.txPhase := rfl
@[simp] theorem advanceClock_txRemaining (s : State) : (advanceClock s).txRemaining = s.txRemaining := rfl
@[simp] theorem advanceClock_tickCounter (s : State) : (advanceClock s).tickCounter = s.tickCounter + 1 := rfl
@[simp] theorem advanceClock_faulted (s : State) : (advanceClock s).faulted = s.faulted := rfl
@[simp] theorem advanceClock_faultInfo (s : State) : (advanceClock s).faultInfo = s.faultInfo := rfl
@[simp] theorem advanceClock_baudRate (s : State) : (advanceClock s).baudRate = s.baudRate := rfl
@[simp] theorem advanceClock_timeBase (s : State) : (advanceClock s).timeBase = s.timeBase := rfl
@[simp] theorem advanceClock_ticksPerHalfBit (s : State) : (advanceClock s).ticksPerHalfBit = s.ticksPerHalfBit := rfl
@[simp] theorem advanceClock_bitsPerFrame (s : State) : (advanceClock s).bitsPerFrame = s.bitsPerFrame := rfl
@[simp] theorem advanceClock_deadTicks (s : State) : (advanceClock s).deadTicks = s.deadTicks := rfl
@[simp] theorem advanceClock_inputSource (s : State) : (advanceClock s).inputSource = s.inputSource := rfl
@[simp] theorem advanceClock_sourcePos (s : State) : (advanceClock s).sourcePos = s.sourcePos := rfl
@[simp] theorem advanceClock_pollAnswers (s : State) : (advanceClock s).pollAnswers = s.pollAnswers := rfl
@[simp] theorem advanceClock_sink (s : State) : (advanceClock s).sink = s.sink := rfl
@[simp] theorem advanceClock_result (s : State) : (advanceClock s).result = s.result := rfl
@[simp] theorem advanceClock_pending (s : State) : (advanceClock s).pending = s.pending := rfl

@[simp] theorem setRate_dataIn (b : Nat) (s : State) : (setRate b s).dataIn = s.dataIn := rfl
@[simp] theorem setRate_dataOut (b : Nat) (s : State) : (setRate b s).dataOut = s.dataOut := rfl
@[simp] theorem setRate_txRDY (b : Nat) (s : State) : (setRate b s).txRDY = s.txRDY := rfl
@[simp] theorem setRate_rxRDY (b : Nat) (s : State) : (setRate b s).rxRDY = s.rxRDY := rfl
@[simp] theorem setRate_txE (b : Nat) (s : State) : (setRate b s).txE = s.txE := rfl
@[simp] theorem setRate_pe (b : Nat) (s : State) : (setRate b s).pe = s.pe := rfl
@[simp] theorem setRate_oe (b : Nat) (s : State) : (setRate b s).oe = s.oe := rfl
@[simp] theorem setRate_fe (b : Nat) (s : State) : (setRate b s).fe = s.fe := rfl
@[simp] theorem setRate_syndet (b : Nat) (s : State) : (setRate b s).syndet = s.syndet := rfl
@[simp] theorem setRate_dsr (b : Nat) (s : State) : (setRate b s).dsr = s.dsr := rfl
@[simp] theorem setRate_rxPhase (b : Nat) (s : State) : (setRate b s).rxPhase = s.rxPhase := rfl
@[simp] theorem setRate_rxRemaining (b : Nat) (s : State) : (setRate b s).rxRemaining = s.rxRemaining := rfl
@[simp] theorem setRate_rxExhausted (b : Nat) (s : State) : (setRate b s).rxExhausted = s.rxExhausted := rfl
@[simp] theorem setRate_txPhase (b : Nat) (s : State) : (setRate b s).txPhase = s.txPhase := rfl
@[simp] theorem setRate_txRemaining (b : Nat) (s : State) : (setRate b s).txRemaining = s.txRemaining := rfl
@[simp] theorem setRate_tickCounter (b : Nat) (s : State) : (setRate b s).tickCounter = s.tickCounter := rfl
@[simp] theorem setRate_faulted (b : Nat) (s : State) : (setRate b s).faulted = s.faulted := rfl
@[simp] theorem setRate_faultInfo (b : Nat) (s : State) : (setRate b s).faultInfo = s.faultInfo := rfl
@[simp] theorem setRate_baudRate (b : Nat) (s : State) : (setRate b s).baudRate = b := rfl
@[simp] theorem setRate_timeBase (b : Nat) (s : State) : (setRate b s).timeBase = s.timeBase := rfl
@[simp] theorem setRate_ticksPerHalfBit (b : Nat) (s : State) : (setRate b s).ticksPerHalfBit = ticksFor s.timeBase b := rfl
@[simp] theorem setRate_bitsPerFrame (b : Nat) (s : State) : (setRate b s).bitsPerFrame = s.bitsPerFrame := rfl
@[simp] theorem setRate_deadTicks (b : Nat) (s : State) : (setRate b s).deadTicks = s.deadTicks := rfl
@[simp] theorem setRate_inputSource (b : Nat) (s : State) : (setRate b s).inputSource = s.inputSource := rfl
@[simp] theorem setRate_sourcePos (b : Nat) (s : State) : (setRate b s).sourcePos = s.sourcePos := rfl
@[simp] theorem setRate_pollAnswers (b : Nat) (s : State) : (setRate b s).pollAnswers = s.pollAnswers := rfl
@[simp] theorem setRate_sink (b : Nat) (s : State) : (setRate b s).sink = s.sink := rfl
@[simp] theorem setRate_result (b : Nat) (s : State) : (setRate b s).result = s.result := rfl
@[simp] theorem setRate_pending (b : Nat) (s : State) : (setRate b s).pending = s.pending := rfl

@[simp] theorem loadDataOut_dataIn (v : Byte) (s : State) : (loadDataOut v s).dataIn = s.dataIn := rfl
@[simp] theorem loadDataOut_dataOut (v : Byte) (s : State) : (loadDataOut v s).dataOut = v := rfl
@[simp] theorem loadDataOut_txRDY (v : Byte) (s : State) : (loadDataOut v s).txRDY = s.txRDY := rfl
@[simp] theorem loadDataOut_rxRDY (v : Byte) (s : State) : (loadDataOut v s).rxRDY = s.rxRDY := rfl
@[simp] theorem loadDataOut_txE (v : Byte) (s : State) : (loadDataOut v s).txE = s.txE := rfl
@[simp] theorem loadDataOut_pe (v : Byte) (s : State) : (loadDataOut v s).pe = s.pe := rfl
@[simp] theorem loadDataOut_oe (v : Byte) (s : State) : (loadDataOut v s).oe = s.oe := rfl
@[simp] theorem loadDataOut_fe (v : Byte) (s : State) : (loadDataOut v s).fe = s.fe := rfl
@[simp] theorem loadDataOut_syndet (v : Byte) (s : State) : (loadDataOut v s).syndet = s.syndet := rfl
@[simp] theorem loadDataOut_dsr (v : Byte) (s : State) : (loadDataOut v s).dsr = s.dsr := rfl
@[simp] theorem loadDataOut_rxPhase (v : Byte) (s : State) : (loadDataOut v s).rxPhase = s.rxPhase := rfl
@[simp] theorem loadDataOut_rxRemaining (v : Byte) (s : State) : (loadDataOut v s).rxRemaining = s.rxRemaining := rfl
@[simp] theorem loadDataOut_rxExhausted (v : Byte) (s : State) : (loadDataOut v s).rxExhausted = s.rxExhausted := rfl
@[simp] theorem loadDataOut_txPhase (v : Byte) (s : State) : (loadDataOut v s).txPhase = s.txPhase := rfl
@[simp] theorem loadDataOut_txRemaining (v : Byte) (s : State) : (loadDataOut v s).txRemaining = s.txRemaining := rfl
@[simp] theorem loadDataOut_tickCounter (v : Byte) (s : State) : (loadDataOut v s).tickCounter = s.tickCounter := rfl
@[simp] theorem loadDataOut_faulted (v : Byte) (s : State) : (loadDataOut v s).faulted = s.faulted := rfl
@[simp] theorem loadDataOut_faultInfo (v : Byte) (s : State) : (loadDataOut v s).faultInfo = s.faultInfo := rfl
@[simp] theorem loadDataOut_baudRate (v : Byte) (s : State) : (loadDataOut v s).baudRate = s.baudRate := rfl
@[simp] theorem loadDataOut_timeBase (v : Byte) (s : State) : (loadDataOut v s).timeBase = s.timeBase := rfl
@[simp] theorem loadDataOut_ticksPerHalfBit (v : Byte) (s : State) : (loadDataOut v s).ticksPerHalfBit = s.ticksPerHalfBit := rfl
@[simp] theorem loadDataOut_bitsPerFrame (v : Byte) (s : State) : (loadDataOut v s).bitsPerFrame = s.bitsPerFrame := rfl
@[simp] theorem loadDataOut_deadTicks (v : Byte) (s : State) : (loadDataOut v s).deadTicks = s.deadTicks := rfl
@[simp] theorem loadDataOut_inputSource (v : Byte) (s : State) : (loadDataOut v s).inputSource = s.inputSource := rfl
@[simp] theorem loadDataOut_sourcePos (v : Byte) (s : State) : (loadDataOut v s).sourcePos = s.sourcePos := rfl
@[simp] theorem loadDataOut_pollAnswers (v : Byte) (s : State) : (loadDataOut v s).pollAnswers = s.pollAnswers := rfl
@[simp] theorem loadDataOut_sink (v : Byte) (s : State) : (loadDataOut v s).sink = s.sink := rfl
@[simp] theorem loadDataOut_result (v : Byte) (s : State) : (loadDataOut v s).result = s.result := rfl
@[simp] theorem loadDataOut_pending (v : Byte) (s : State) : (loadDataOut v s).pending = s.pending := rfl

@[simp] theorem startFrame_dataIn (s : State) : (startFrame s).dataIn = s.dataIn := rfl
@[simp] theorem startFrame_dataOut (s : State) : (startFrame s).dataOut = s.dataOut := rfl
@[simp] theorem startFrame_txRDY (s : State) : (startFrame s).txRDY = false := rfl
@[simp] theorem startFrame_rxRDY (s : State) : (startFrame s).rxRDY = s.rxRDY := rfl
@[simp] theorem startFrame_txE (s : State) : (startFrame s).txE = false := rfl
@[simp] theorem startFrame_pe (s : State) : (startFrame s).pe = s.pe := rfl
@[simp] theorem startFrame_oe (s : State) : (startFrame s).oe = s.oe := rfl
@[simp] theorem startFrame_fe (s : State) : (startFrame s).fe = s.fe := rfl
@[simp] theorem startFrame_syndet (s : State) : (startFrame s).syndet = s.syndet := rfl
@[simp] theorem startFrame_dsr (s : State) : (startFrame s).dsr = s.dsr := rfl
@[simp] theorem startFrame_rxPhase (s : State) : (startFrame s).rxPhase = s.rxPhase := rfl
@[simp] theorem startFrame_rxRemaining (s : State) : (startFrame s).rxRemaining = s.rxRemaining := rfl
@[simp] theorem startFrame_rxExhausted (s : State) : (startFrame s).rxExhausted = s.rxExhausted := rfl
@[simp] theorem startFrame_txPhase (s : State) : (startFrame s).txPhase = .sending := rfl
@[simp] theorem startFrame_txRemaining (s : State) : (startFrame s).txRemaining = txDelay s := rfl
@[simp] theorem startFrame_tickCounter (s : State) : (startFrame s).tickCounter = s.tickCounter := rfl
@[simp] theorem startFrame_faulted (s : State) : (startFrame s).faulted = s.faulted := rfl
@[simp] theorem startFrame_faultInfo (s : State) : (startFrame s).faultInfo = s.faultInfo := rfl
@[simp] theorem startFrame_baudRate (s : State) : (startFrame s).baudRate = s.baudRate := rfl
@[simp] theorem startFrame_timeBase (s : State) : (startFrame s).timeBase = s.timeBase := rfl
@[simp] theorem startFrame_ticksPerHalfBit (s : State) : (startFrame s).ticksPerHalfBit = s.ticksPerHalfBit := rfl
@[simp] theorem startFrame_bitsPerFrame (s : State) : (startFrame s).bitsPerFrame = s.bitsPerFrame := rfl
@[simp] theorem startFrame_deadTicks (s : State) : (startFrame s).deadTicks = s.deadTicks := rfl
@[simp] theorem startFrame_inputSource (s : State) : (startFrame s).inputSource = s.inputSource := rfl
@[simp] theorem startFrame_sourcePos (s : State) : (startFrame s).sourcePos = s.sourcePos := rfl
@[simp] theorem startFrame_pollAnswers (s : State) : (startFrame s).pollAnswers = s.pollAnswers := rfl
@[simp] theorem startFrame_sink (s : State) : (startFrame s).sink = s.sink := rfl
@[simp] theorem startFrame_result (s : State) : (startFrame s).result = s.result := rfl
@[simp] theorem startFrame_pending (s : State) : (startFrame s).pending = s.pending := rfl

@[simp] theorem txCountdown_dataIn (s : State) : (txCountdown s).dataIn = s.dataIn := rfl
@[simp] theorem txCountdown_dataOut (s : State) : (txCountdown s).dataOut = s.dataOut := rfl
@[simp] theorem txCountdown_txRDY (s : State) : (txCountdown s).txRDY = s.txRDY := rfl
@[simp] theorem txCountdown_rxRDY (s : State) : (txCountdown s).rxRDY = s.rxRDY := rfl
@[simp] theorem txCountdown_txE (s : State) : (txCountdown s).txE = s.txE := rfl
@[simp] theorem txCountdown_pe (s : State) : (txCountdown s).pe = s.pe := rfl
@[simp] theorem txCountdown_oe (s : State) : (txCountdown s).oe = s.oe := rfl
@[simp] theorem txCountdown_fe (s : State) : (txCountdown s).fe = s.fe := rfl
@[simp] theorem txCountdown_syndet (s : State) : (txCountdown s).syndet = s.syndet := rfl
@[simp] theorem txCountdown_dsr (s : State) : (txCountdown s).dsr = s.dsr := rfl
@[simp] theorem txCountdown_rxPhase (s : State) : (txCountdown s).rxPhase = s.rxPhase := rfl
@[simp] theorem txCountdown_rxRemaining (s : State) : (txCountdown s).rxRemaining = s.rxRemaining := rfl
@[simp] theorem txCountdown_rxExhausted (s : State) : (txCountdown s).rxExhausted = s.rxExhausted := rfl
@[simp] theorem txCountdown_txPhase (s : State) : (txCountdown s).txPhase = s.txPhase := rfl
@[simp] theorem txCountdown_txRemaining (s : State) : (txCountdown s).txRemaining = s.txRemaining - 1 := rfl
@[simp] theorem txCountdown_tickCounter (s : State) : (txCountdown s).tickCounter = s.tickCounter := rfl
@[simp] theorem txCountdown_faulted (s : State) : (txCountdown s).faulted = s.faulted := rfl
@[simp] theorem txCountdown_faultInfo (s : State) : (txCountdown s).faultInfo = s.faultInfo := rfl
@[simp] theorem txCountdown_baudRate (s : State) : (txCountdown s).baudRate = s.baudRate := rfl
@[simp] theorem txCountdown_timeBase (s : State) : (txCountdown s).timeBase = s.timeBase := rfl
@[simp] theorem txCountdown_ticksPerHalfBit (s : State) : (txCountdown s).ticksPerHalfBit = s.ticksPerHalfBit := rfl
@[simp] theorem txCountdown_bitsPerFrame (s : State) : (txCountdown s).bitsPerFrame = s.bitsPerFrame := rfl
@[simp] theorem txCountdown_deadTicks (s : State) : (txCountdown s).deadTicks = s.deadTicks := rfl
@[simp] theorem txCountdown_inputSource (s : State) : (txCountdown s).inputSource = s.inputSource := rfl
@[simp] theorem txCountdown_sourcePos (s : State) : (txCountdown s).sourcePos = s.sourcePos := rfl
@[simp] theorem txCountdown_pollAnswers (s : State) : (txCountdown s).pollAnswers = s.pollAnswers := rfl
@[simp] theorem txCountdown_sink (s : State) : (txCountdown s).sink = s.sink := rfl
@[simp] theorem txCountdown_result (s : State) : (txCountdown s).result = s.result := rfl
@[simp] theorem txCountdown_pending (s : State) : (txCountdown s).pending = s.pending := rfl

@[simp] theorem txEmit_dataIn (s : State) : (txEmit s).dataIn = s.dataIn := rfl
@[simp] theorem txEmit_dataOut (s : State) : (txEmit s).dataOut = s.dataOut := rfl
@[simp] theorem txEmit_txRDY (s : State) : (txEmit s).txRDY = true := rfl
@[simp] theorem txEmit_rxRDY (s : State) : (txEmit s).rxRDY = s.rxRDY := rfl
@[simp] theorem txEmit_txE (s : State) : (txEmit s).txE = true := rfl
@[simp] theorem txEmit_pe (s : State) : (txEmit s).pe = s.pe := rfl
@[simp] theorem txEmit_oe (s : State) : (txEmit s).oe = s.oe := rfl
@[simp] theorem txEmit_fe (s : State) : (txEmit s).fe = s.fe := rfl
@[simp] theorem txEmit_syndet (s : State) : (txEmit s).syndet = s.syndet := rfl
@[simp] theorem txEmit_dsr (s : State) : (txEmit s).dsr = s.dsr := rfl
@[simp] theorem txEmit_rxPhase (s : State) : (txEmit s).rxPhase = s.rxPhase := rfl
@[simp] theorem txEmit_rxRemaining (s : State) : (txEmit s).rxRemaining = s.rxRemaining := rfl
@[simp] theorem txEmit_rxExhausted (s : State) : (txEmit s).rxExhausted = s.rxExhausted := rfl
@[simp] theorem txEmit_txPhase (s : State) : (txEmit s).txPhase = .idle := rfl
@[simp] theorem txEmit_txRemaining (s : State) : (txEmit s).txRemaining = s.txRemaining := rfl
@[simp] theorem txEmit_tickCounter (s : State) : (txEmit s).tickCounter = s.tickCounter := rfl
@[simp] theorem txEmit_faulted (s : State) : (txEmit s).faulted = s.faulted := rfl
@[simp] theorem txEmit_faultInfo (s : State) : (txEmit s).faultInfo = s.faultInfo := rfl
@[simp] theorem txEmit_baudRate (s : State) : (txEmit s).baudRate = s.baudRate := rfl
@[simp] theorem txEmit_timeBase (s : State) : (txEmit s).timeBase = s.timeBase := rfl
@[simp] theorem txEmit_ticksPerHalfBit (s : State) : (txEmit s).ticksPerHalfBit = s.ticksPerHalfBit := rfl
@[simp] theorem txEmit_bitsPerFrame (s : State) : (txEmit s).bitsPerFrame = s.bitsPerFrame := rfl
@[simp] theorem txEmit_deadTicks (s : State) : (txEmit s).deadTicks = s.deadTicks := rfl
@[simp] theorem txEmit_inputSource (s : State) : (txEmit s).inputSource = s.inputSource := rfl
@[simp] theorem txEmit_sourcePos (s : State) : (txEmit s).sourcePos = s.sourcePos := rfl
@[simp] theorem txEmit_pollAnswers (s : State) : (txEmit s).pollAnswers = s.pollAnswers := rfl
@[simp] theorem txEmit_sink (s : State) : (txEmit s).sink = s.sink ++ [s.dataOut] := rfl
@[simp] theorem txEmit_result (s : State) : (txEmit s).result = s.result := rfl
@[simp] theorem txEmit_pending (s : State) : (txEmit s).pending = s.pending := rfl

@[simp] theorem rxDeadTime_dataIn (s : State) : (rxDeadTime s).dataIn = s.dataIn := rfl
@[simp] theorem rxDeadTime_dataOut (s : State) : (rxDeadTime s).dataOut = s.dataOut := rfl
@[simp] theorem rxDeadTime_txRDY (s : State) : (rxDeadTime s).txRDY = s.txRDY := rfl
@[simp] theorem rxDeadTime_rxRDY (s : State) : (rxDeadTime s).rxRDY = s.rxRDY := rfl
@[simp] theorem rxDeadTime_txE (s : State) : (rxDeadTime s).txE = s.txE := rfl
@[simp] theorem rxDeadTime_pe (s : State) : (rxDeadTime s).pe = s.pe := rfl
@[simp] theorem rxDeadTime_oe (s : State) : (rxDeadTime s).oe = s.oe := rfl
@[simp] theorem rxDeadTime_fe (s : State) : (rxDeadTime s).fe = s.fe := rfl
@[simp] theorem rxDeadTime_syndet (s : State) : (rxDeadTime s).syndet = s.syndet := rfl
@[simp] theorem rxDeadTime_dsr (s : State) : (rxDeadTime s).dsr = s.dsr := rfl
@[simp] theorem rxDeadTime_rxPhase (s : State) : (rxDeadTime s).rxPhase = if s.rxRemaining - 1 = 0 then .active else .deadTime := rfl
@[simp] theorem rxDeadTime_rxRemaining (s : State) : (rxDeadTime s).rxRemaining = s.rxRemaining - 1 := rfl
@[simp] theorem rxDeadTime_rxExhausted (s : State) : (rxDeadTime s).rxExhausted = s.rxExhausted := rfl
@[simp] theorem rxDeadTime_txPhase (s : State) : (rxDeadTime s).txPhase = s.txPhase := rfl
@[simp] theorem rxDeadTime_txRemaining (s : State) : (rxDeadTime s).txRemaining = s.txRemaining := rfl
@[simp] theorem rxDeadTime_tickCounter (s : State) : (rxDeadTime s).tickCounter = s.tickCounter := rfl
@[simp] theorem rxDeadTime_faulted (s : State) : (rxDeadTime s).faulted = s.faulted := rfl
@[simp] theorem rxDeadTime_faultInfo (s : State) : (rxDeadTime s).faultInfo = s.faultInfo := rfl
@[simp] theorem rxDeadTime_baudRate (s : State) : (rxDeadTime s).baudRate = s.baudRate := rfl
@[simp] theorem rxDeadTime_timeBase (s : State) : (rxDeadTime s).timeBase = s.timeBase := rfl
@[simp] theorem rxDeadTime_ticksPerHalfBit (s : State) : (rxDeadTime s).ticksPerHalfBit = s.ticksPerHalfBit := rfl
@[simp] theorem rxDeadTime_bitsPerFrame (s : State) : (rxDeadTime s).bitsPerFrame = s.bitsPerFrame := rfl
@[simp] theorem rxDeadTime_deadTicks (s : State) : (rxDeadTime s).deadTicks = s.deadTicks := rfl
@[simp] theorem rxDeadTime_inputSource (s : State) : (rxDeadTime s).inputSource = s.inputSource := rfl
@[simp] theorem rxDeadTime_sourcePos (s : State) : (rxDeadTime s).sourcePos = s.sourcePos := rfl
@[simp] theorem rxDeadTime_pollAnswers (s : State) : (rxDeadTime s).pollAnswers = s.pollAnswers := rfl
@[simp] theorem rxDeadTime_sink (s : State) : (rxDeadTime s).sink = s.sink := rfl
@[simp] theorem rxDeadTime_result (s : State) : (rxDeadTime s).result = s.result := rfl
@[simp] theorem rxDeadTime_pending (s : State) : (rxDeadTime s).pending = s.pending := rfl

@[simp] theorem rxOverrun_dataIn (s : State) : (rxOverrun s).dataIn = s.dataIn := rfl
@[simp] theorem rxOverrun_dataOut (s : State) : (rxOverrun s).dataOut = s.dataOut := rfl
@[simp] theorem rxOverrun_txRDY (s : State) : (rxOverrun s).txRDY = s.txRDY := rfl
@[simp] theorem rxOverrun_rxRDY (s : State) : (rxOverrun s).rxRDY = s.rxRDY := rfl
@[simp] theorem rxOverrun_txE (s : State) : (rxOverrun s).txE = s.txE := rfl
@[simp] theorem rxOverrun_pe (s : State) : (rxOverrun s).pe = s.pe := rfl
@[simp] theorem rxOverrun_oe (s : State) : (rxOverrun s).oe = true := rfl
@[simp] theorem rxOverrun_fe (s : State) : (rxOverrun s).fe = s.fe := rfl
@[simp] theorem rxOverrun_syndet (s : State) : (rxOverrun s).syndet = s.syndet := rfl
@[simp] theorem rxOverrun_dsr (s : State) : (rxOverrun s).dsr = s.dsr := rfl
@[simp] theorem rxOverrun_rxPhase (s : State) : (rxOverrun s).rxPhase = s.rxPhase := rfl
@[simp] theorem rxOverrun_rxRemaining (s : State) : (rxOverrun s).rxRemaining = s.rxRemaining := rfl
@[simp] theorem rxOverrun_rxExhausted (s : State) : (rxOverrun s).rxExhausted = s.rxExhausted := rfl
@[simp] theorem rxOverrun_txPhase (s : State) : (rxOverrun s).txPhase = s.txPhase := rfl
@[simp] theorem rxOverrun_txRemaining (s : State) : (rxOverrun s).txRemaining = s.txRemaining := rfl
@[simp] theorem rxOverrun_tickCounter (s : State) : (rxOverrun s).tickCounter = s.tickCounter := rfl
@[simp] theorem rxOverrun_faulted (s : State) : (rxOverrun s).faulted = s.faulted := rfl
@[simp] theorem rxOverrun_faultInfo (s : State) : (rxOverrun s).faultInfo = s.faultInfo := rfl
@[simp] theorem rxOverrun_baudRate (s : State) : (rxOverrun s).baudRate = s.baudRate := rfl
@[simp] theorem rxOverrun_timeBase (s : State) : (rxOverrun s).timeBase = s.timeBase := rfl
@[simp] theorem rxOverrun_ticksPerHalfBit (s : State) : (rxOverrun s).ticksPerHalfBit = s.ticksPerHalfBit := rfl
@[simp] theorem rxOverrun_bitsPerFrame (s : State) : (rxOverrun s).bitsPerFrame = s.bitsPerFrame := rfl
@[simp] theorem rxOverrun_deadTicks (s : State) : (rxOverrun s).deadTicks = s.deadTicks := rfl
@[simp] theorem rxOverrun_inputSource (s : State) : (rxOverrun s).inputSource = s.inputSource := rfl
@[simp] theorem rxOverrun_sourcePos (s : State) : (rxOverrun s).sourcePos = s.sourcePos := rfl
@[simp] theorem rxOverrun_pollAnswers (s : State) : (rxOverrun s).pollAnswers = s.pollAnswers := rfl
@[simp] theorem rxOverrun_sink (s : State) : (rxOverrun s).sink = s.sink := rfl
@[simp] theorem rxOverrun_result (s : State) : (rxOverrun s).result = s.result := rfl
@[simp] theorem rxOverrun_pending (s : State) : (rxOverrun s).pending = s.pending := rfl

@[simp] theorem rxExhaust_dataIn (s : State) : (rxExhaust s).dataIn = s.dataIn := rfl
@[simp] theorem rxExhaust_dataOut (s : State) : (rxExhaust s).dataOut = s.dataOut := rfl
@[simp] theorem rxExhaust_txRDY (s : State) : (rxExhaust s).txRDY = s.txRDY := rfl
@[simp] theorem rxExhaust_rxRDY (s : State) : (rxExhaust s).rxRDY = s.rxRDY := rfl
@[simp] theorem rxExhaust_txE (s : State) : (rxExhaust s).txE = s.txE := rfl
@[simp] theorem rxExhaust_pe (s : State) : (rxExhaust s).pe = s.pe := rfl
@[simp] theorem rxExhaust_oe (s : State) : (rxExhaust s).oe = s.oe := rfl
@[simp] theorem rxExhaust_fe (s : State) : (rxExhaust s).fe = s.fe := rfl
@[simp] theorem rxExhaust_syndet (s : State) : (rxExhaust s).syndet = s.syndet := rfl
@[simp] theorem rxExhaust_dsr (s : State) : (rxExhaust s).dsr = s.dsr := rfl
@[simp] theorem rxExhaust_rxPhase (s : State) : (rxExhaust s).rxPhase = .idle := rfl
@[simp] theorem rxExhaust_rxRemaining (s : State) : (rxExhaust s).rxRemaining = s.rxRemaining := rfl
@[simp] theorem rxExhaust_rxExhausted (s : State) : (rxExhaust s).rxExhausted = true := rfl
@[simp] theorem rxExhaust_txPhase (s : State) : (rxExhaust s).txPhase = s.txPhase := rfl
@[simp] theorem rxExhaust_txRemaining (s : State) : (rxExhaust s).txRemaining = s.txRemaining := rfl
@[simp] theorem rxExhaust_tickCounter (s : State) : (rxExhaust s).tickCounter = s.tickCounter := rfl
@[simp] theorem rxExhaust_faulted (s : State) : (rxExhaust s).faulted = s.faulted := rfl
@[simp] theorem rxExhaust_faultInfo (s : State) : (rxExhaust s).faultInfo = s.faultInfo := rfl
@[simp] theorem rxExhaust_baudRate (s : State) : (rxExhaust s).baudRate = s.baudRate := rfl
@[simp] theorem rxExhaust_timeBase (s : State) : (rxExhaust s).timeBase = s.timeBase := rfl
@[simp] theorem rxExhaust_ticksPerHalfBit (s : State) : (rxExhaust s).ticksPerHalfBit = s.ticksPerHalfBit := rfl
@[simp] theorem rxExhaust_bitsPerFrame (s : State) : (rxExhaust s).bitsPerFrame = s.bitsPerFrame := rfl
@[simp] theorem rxExhaust_deadTicks (s : State) : (rxExhaust s).deadTicks = s.deadTicks := rfl
@[simp] theorem rxExhaust_inputSource (s : State) : (rxExhaust s).inputSource = s.inputSource := rfl
@[simp] theorem rxExhaust_sourcePos (s : State) : (rxExhaust s).sourcePos = s.sourcePos := rfl
@[simp] theorem rxExhaust_pollAnswers (s : State) : (rxExhaust s).pollAnswers = s.pollAnswers := rfl
@[simp] theorem rxExhaust_sink (s : State) : (rxExhaust s).sink = s.sink := rfl
@[simp] theorem rxExhaust_result (s : State) : (rxExhaust s).result = s.result := rfl
@[simp] theorem rxExhaust_pending (s : State) : (rxExhaust s).pending = s.pending := rfl

@[simp] theorem resetDevice_dataIn (s : State) : (resetDevice s).dataIn = 0x00#8 := rfl
@[simp] theorem resetDevice_dataOut (s : State) : (resetDevice s).dataOut = 0x00#8 := rfl
@[simp] theorem resetDevice_txRDY (s : State) : (resetDevice s).txRDY = true := rfl
@[simp] theorem resetDevice_rxRDY (s : State) : (resetDevice s).rxRDY = false := rfl
@[simp] theorem resetDevice_txE (s : State) : (resetDevice s).txE = true := rfl
@[simp] theorem resetDevice_pe (s : State) : (resetDevice s).pe = false := rfl
@[simp] theorem resetDevice_oe (s : State) : (resetDevice s).oe = true := rfl
@[simp] theorem resetDevice_fe (s : State) : (resetDevice s).fe = false := rfl
@[simp] theorem resetDevice_syndet (s : State) : (resetDevice s).syndet = false := rfl
@[simp] theorem resetDevice_dsr (s : State) : (resetDevice s).dsr = false := rfl
@[simp] theorem resetDevice_rxPhase (s : State) : (resetDevice s).rxPhase = .idle := rfl
@[simp] theorem resetDevice_rxRemaining (s : State) : (resetDevice s).rxRemaining = 0 := rfl
@[simp] theorem resetDevice_rxExhausted (s : State) : (resetDevice s).rxExhausted = false := rfl
@[simp] theorem resetDevice_txPhase (s : State) : (resetDevice s).txPhase = .idle := rfl
@[simp] theorem resetDevice_txRemaining (s : State) : (resetDevice s).txRemaining = 0 := rfl
@[simp] theorem resetDevice_tickCounter (s : State) : (resetDevice s).tickCounter = 0 := rfl
@[simp] theorem resetDevice_faulted (s : State) : (resetDevice s).faulted = s.faulted := rfl
@[simp] theorem resetDevice_faultInfo (s : State) : (resetDevice s).faultInfo = s.faultInfo := rfl
@[simp] theorem resetDevice_baudRate (s : State) : (resetDevice s).baudRate = s.baudRate := rfl
@[simp] theorem resetDevice_timeBase (s : State) : (resetDevice s).timeBase = s.timeBase := rfl
@[simp] theorem resetDevice_ticksPerHalfBit (s : State) : (resetDevice s).ticksPerHalfBit = s.ticksPerHalfBit := rfl
@[simp] theorem resetDevice_bitsPerFrame (s : State) : (resetDevice s).bitsPerFrame = s.bitsPerFrame := rfl
@[simp] theorem resetDevice_deadTicks (s : State) : (resetDevice s).deadTicks = s.deadTicks := rfl
@[simp] theorem resetDevice_inputSource (s : State) : (resetDevice s).inputSource = s.inputSource := rfl
@[simp] theorem resetDevice_sourcePos (s : State) : (resetDevice s).sourcePos = s.sourcePos := rfl
@[simp] theorem resetDevice_pollAnswers (s : State) : (resetDevice s).pollAnswers = s.pollAnswers := rfl
@[simp] theorem resetDevice_sink (s : State) : (resetDevice s).sink = s.sink := rfl
@[simp] theorem resetDevice_result (s : State) : (resetDevice s).result = s.result := rfl
@[simp] theorem resetDevice_pending (s : State) : (resetDevice s).pending = s.pending := rfl

@[simp] theorem bringUp_dataIn (t b f n : Nat) (src : InputSource) (s : State) : (bringUp t b f n src s).dataIn = 0x00#8 := rfl
@[simp] theorem bringUp_dataOut (t b f n : Nat) (src : InputSource) (s : State) : (bringUp t b f n src s).dataOut = 0x00#8 := rfl
@[simp] theorem bringUp_txRDY (t b f n : Nat) (src : InputSource) (s : State) : (bringUp t b f n src s).txRDY = true := rfl
@[simp] theorem bringUp_rxRDY (t b f n : Nat) (src : InputSource) (s : State) : (bringUp t b f n src s).rxRDY = false := rfl
@[simp] theorem bringUp_txE (t b f n : Nat) (src : InputSource) (s : State) : (bringUp t b f n src s).txE = true := rfl
@[simp] theorem bringUp_pe (t b f n : Nat) (src : InputSource) (s : State) : (bringUp t b f n src s).pe = false := rfl
@[simp] theorem bringUp_oe (t b f n : Nat) (src : InputSource) (s : State) : (bringUp t b f n src s).oe = true := rfl
@[simp] theorem bringUp_fe (t b f n : Nat) (src : InputSource) (s : State) : (bringUp t b f n src s).fe = false := rfl
@[simp] theorem bringUp_syndet (t b f n : Nat) (src : InputSource) (s : State) : (bringUp t b f n src s).syndet = false := rfl
@[simp] theorem bringUp_dsr (t b f n : Nat) (src : InputSource) (s : State) : (bringUp t b f n src s).dsr = false := rfl
@[simp] theorem bringUp_rxPhase (t b f n : Nat) (src : InputSource) (s : State) : (bringUp t b f n src s).rxPhase = .idle := rfl
@[simp] theorem bringUp_rxRemaining (t b f n : Nat) (src : InputSource) (s : State) : (bringUp t b f n src s).rxRemaining = 0 := rfl
@[simp] theorem bringUp_rxExhausted (t b f n : Nat) (src : InputSource) (s : State) : (bringUp t b f n src s).rxExhausted = false := rfl
@[simp] theorem bringUp_txPhase (t b f n : Nat) (src : InputSource) (s : State) : (bringUp t b f n src s).txPhase = .idle := rfl
@[simp] theorem bringUp_txRemaining (t b f n : Nat) (src : InputSource) (s : State) : (bringUp t b f n src s).txRemaining = 0 := rfl
@[simp] theorem bringUp_tickCounter (t b f n : Nat) (src : InputSource) (s : State) : (bringUp t b f n src s).tickCounter = 0 := rfl
@[simp] theorem bringUp_faulted (t b f n : Nat) (src : InputSource) (s : State) : (bringUp t b f n src s).faulted = false := rfl
@[simp] theorem bringUp_faultInfo (t b f n : Nat) (src : InputSource) (s : State) : (bringUp t b f n src s).faultInfo = none := rfl
@[simp] theorem bringUp_baudRate (t b f n : Nat) (src : InputSource) (s : State) : (bringUp t b f n src s).baudRate = b := rfl
@[simp] theorem bringUp_timeBase (t b f n : Nat) (src : InputSource) (s : State) : (bringUp t b f n src s).timeBase = t := rfl
@[simp] theorem bringUp_ticksPerHalfBit (t b f n : Nat) (src : InputSource) (s : State) : (bringUp t b f n src s).ticksPerHalfBit = ticksFor t b := rfl
@[simp] theorem bringUp_bitsPerFrame (t b f n : Nat) (src : InputSource) (s : State) : (bringUp t b f n src s).bitsPerFrame = f := rfl
@[simp] theorem bringUp_deadTicks (t b f n : Nat) (src : InputSource) (s : State) : (bringUp t b f n src s).deadTicks = n := rfl
@[simp] theorem bringUp_inputSource (t b f n : Nat) (src : InputSource) (s : State) : (bringUp t b f n src s).inputSource = src := rfl
@[simp] theorem bringUp_sourcePos (t b f n : Nat) (src : InputSource) (s : State) : (bringUp t b f n src s).sourcePos = 0 := rfl
@[simp] theorem bringUp_pollAnswers (t b f n : Nat) (src : InputSource) (s : State) : (bringUp t b f n src s).pollAnswers = s.pollAnswers := rfl
@[simp] theorem bringUp_sink (t b f n : Nat) (src : InputSource) (s : State) : (bringUp t b f n src s).sink = [] := rfl
@[simp] theorem bringUp_result (t b f n : Nat) (src : InputSource) (s : State) : (bringUp t b f n src s).result = s.result := rfl
@[simp] theorem bringUp_pending (t b f n : Nat) (src : InputSource) (s : State) : (bringUp t b f n src s).pending = s.pending := rfl

end Sys2Proof.Machine
end

