-- ==== Sys2Proof/Laws/Ops.lean ====
section
/-! SUPPORT. What the shared operations can do, once each: an inversion lemma per operation and pass, and the fields each leaves. -/
namespace Sys2Proof.Machine

@[simp] theorem whenLive_of_live {s : State} (h : s.faulted = false) (f : State → State) : whenLive s f = .next (f s) := by
  simp [whenLive, h]

@[simp] theorem whenLive_of_faulted {s : State} (h : s.faulted = true) (f : State → State) :
    whenLive s f = .fault .deviceFaulted := by
  simp [whenLive, h]

/-- All that `whenLive` can answer with a next state. -/
theorem whenLive_eq_next {s t : State} {f : State → State} (h : whenLive s f = .next t) : s.faulted = false ∧ t = f s := by
  unfold whenLive at h
  split at h
  · cases h
  · cases h
    exact ⟨Bool.eq_false_iff.mpr ‹_›, rfl⟩

theorem whenLive_ne_refused (s : State) (f : State → State) (r : Refusal) : whenLive s f ≠ .refused r := by
  unfold whenLive; split <;> simp

theorem checkBaud_of_pos {b : Int} (h : 0 < b) : checkBaud b = none := by
  simp [checkBaud, Int.not_le.mpr h]

theorem checkBaud_of_not_pos {b : Int} (h : b ≤ 0) : checkBaud b = some ⟨.baudNotPositive, b⟩ := by
  simp [checkBaud, h]

theorem checkParameters_of_legal {t b f n : Int} (ht : 0 < t) (hb : 0 < b) (hf : 0 < f) (hn : 0 ≤ n) :
    checkParameters t b f n = none := by
  simp [checkParameters, Int.not_le.mpr ht, Int.not_le.mpr hb, Int.not_le.mpr hf, Int.not_lt.mpr hn]

/-- No operation is refused: the block gives every one a meaning. -/
theorem exec_ne_refused (i : Instr) (s : State) (r : Refusal) : exec i s ≠ .refused r := by
  cases i with
  | construct t b f n src => simp only [exec, execConstruct]; split <;> simp
  | rdData => unfold exec execRdData; exact whenLive_ne_refused _ _ _
  | rdStatus => unfold exec execRdStatus; exact whenLive_ne_refused _ _ _
  | wrData v => unfold exec execWrData; exact whenLive_ne_refused _ _ _
  | wrControl v => unfold exec execWrControl; exact whenLive_ne_refused _ _ _
  | tick => unfold exec execTick; exact whenLive_ne_refused _ _ _
  | reset => unfold exec execReset; exact whenLive_ne_refused _ _ _
  | setBaud b => unfold exec execSetBaud; exact whenLive_ne_refused _ _ _
  | now => unfold exec execNow; exact whenLive_ne_refused _ _ _

/-- The poll changes only the environment's position. -/
theorem afterPoll_cases (s : State) :
    afterPoll s = s ∨ afterPoll s = { s with sourcePos := s.sourcePos + 1 } ∨
      afterPoll s = { s with pollAnswers := s.pollAnswers.tail } := by
  unfold afterPoll
  split
  · split
    · exact .inr (.inl rfl)
    · exact .inl rfl
  · exact .inr (.inr rfl)

/-- The arms of the receive pass (R73). -/
theorem receivePass_cases (s : State) :
    receivePass s = s ∨ receivePass s = { s with rxPhase := .active } ∨ receivePass s = rxDeadTime s ∨
      (∃ b, receivePass s = rxLatch b (afterPoll s)) ∨ receivePass s = rxOverrun (afterPoll s) ∨
      receivePass s = rxExhaust (afterPoll s) ∨ receivePass s = afterPoll s := by
  unfold receivePass
  split
  · unfold rxIdle
    split
    · exact .inl rfl
    · exact .inr (.inl rfl)
  · exact .inr (.inr (.inl rfl))
  · unfold rxActive
    split
    · split
      · exact .inr (.inr (.inr (.inr (.inl rfl))))
      · exact .inr (.inr (.inr (.inl ⟨_, rfl⟩)))
    · exact .inr (.inr (.inr (.inr (.inr (.inl rfl)))))
    · exact .inr (.inr (.inr (.inr (.inr (.inr rfl)))))

/-- The arms of the transmit pass (R87). -/
theorem transmitPass_cases (s : State) :
    transmitPass s = s ∨ transmitPass s = txCountdown s ∨ transmitPass s = txEmit (txCountdown s) := by
  unfold transmitPass
  split
  · exact .inl rfl
  · split
    · exact .inr (.inr rfl)
    · exact .inr (.inl rfl)

/-! The fields each operation and pass leaves unchanged. -/

@[simp] theorem afterPoll_dataIn (s : State) : (afterPoll s).dataIn = s.dataIn := by
  rcases afterPoll_cases s with h | h | h <;> rw [h]
@[simp] theorem afterPoll_dataOut (s : State) : (afterPoll s).dataOut = s.dataOut := by
  rcases afterPoll_cases s with h | h | h <;> rw [h]
@[simp] theorem afterPoll_txRDY (s : State) : (afterPoll s).txRDY = s.txRDY := by
  rcases afterPoll_cases s with h | h | h <;> rw [h]
@[simp] theorem afterPoll_rxRDY (s : State) : (afterPoll s).rxRDY = s.rxRDY := by
  rcases afterPoll_cases s with h | h | h <;> rw [h]
@[simp] theorem afterPoll_txE (s : State) : (afterPoll s).txE = s.txE := by
  rcases afterPoll_cases s with h | h | h <;> rw [h]
@[simp] theorem afterPoll_pe (s : State) : (afterPoll s).pe = s.pe := by
  rcases afterPoll_cases s with h | h | h <;> rw [h]
@[simp] theorem afterPoll_oe (s : State) : (afterPoll s).oe = s.oe := by
  rcases afterPoll_cases s with h | h | h <;> rw [h]
@[simp] theorem afterPoll_fe (s : State) : (afterPoll s).fe = s.fe := by
  rcases afterPoll_cases s with h | h | h <;> rw [h]
@[simp] theorem afterPoll_syndet (s : State) : (afterPoll s).syndet = s.syndet := by
  rcases afterPoll_cases s with h | h | h <;> rw [h]
@[simp] theorem afterPoll_dsr (s : State) : (afterPoll s).dsr = s.dsr := by
  rcases afterPoll_cases s with h | h | h <;> rw [h]
@[simp] theorem afterPoll_rxPhase (s : State) : (afterPoll s).rxPhase = s.rxPhase := by
  rcases afterPoll_cases s with h | h | h <;> rw [h]
@[simp] theorem afterPoll_rxRemaining (s : State) : (afterPoll s).rxRemaining = s.rxRemaining := by
  rcases afterPoll_cases s with h | h | h <;> rw [h]
@[simp] theorem afterPoll_rxExhausted (s : State) : (afterPoll s).rxExhausted = s.rxExhausted := by
  rcases afterPoll_cases s with h | h | h <;> rw [h]
@[simp] theorem afterPoll_txPhase (s : State) : (afterPoll s).txPhase = s.txPhase := by
  rcases afterPoll_cases s with h | h | h <;> rw [h]
@[simp] theorem afterPoll_txRemaining (s : State) : (afterPoll s).txRemaining = s.txRemaining := by
  rcases afterPoll_cases s with h | h | h <;> rw [h]
@[simp] theorem afterPoll_tickCounter (s : State) : (afterPoll s).tickCounter = s.tickCounter := by
  rcases afterPoll_cases s with h | h | h <;> rw [h]
@[simp] theorem afterPoll_faulted (s : State) : (afterPoll s).faulted = s.faulted := by
  rcases afterPoll_cases s with h | h | h <;> rw [h]
@[simp] theorem afterPoll_faultInfo (s : State) : (afterPoll s).faultInfo = s.faultInfo := by
  rcases afterPoll_cases s with h | h | h <;> rw [h]
@[simp] theorem afterPoll_baudRate (s : State) : (afterPoll s).baudRate = s.baudRate := by
  rcases afterPoll_cases s with h | h | h <;> rw [h]
@[simp] theorem afterPoll_timeBase (s : State) : (afterPoll s).timeBase = s.timeBase := by
  rcases afterPoll_cases s with h | h | h <;> rw [h]
@[simp] theorem afterPoll_ticksPerHalfBit (s : State) : (afterPoll s).ticksPerHalfBit = s.ticksPerHalfBit := by
  rcases afterPoll_cases s with h | h | h <;> rw [h]
@[simp] theorem afterPoll_bitsPerFrame (s : State) : (afterPoll s).bitsPerFrame = s.bitsPerFrame := by
  rcases afterPoll_cases s with h | h | h <;> rw [h]
@[simp] theorem afterPoll_deadTicks (s : State) : (afterPoll s).deadTicks = s.deadTicks := by
  rcases afterPoll_cases s with h | h | h <;> rw [h]
@[simp] theorem afterPoll_inputSource (s : State) : (afterPoll s).inputSource = s.inputSource := by
  rcases afterPoll_cases s with h | h | h <;> rw [h]
@[simp] theorem afterPoll_sink (s : State) : (afterPoll s).sink = s.sink := by
  rcases afterPoll_cases s with h | h | h <;> rw [h]
@[simp] theorem afterPoll_result (s : State) : (afterPoll s).result = s.result := by
  rcases afterPoll_cases s with h | h | h <;> rw [h]
@[simp] theorem afterPoll_pending (s : State) : (afterPoll s).pending = s.pending := by
  rcases afterPoll_cases s with h | h | h <;> rw [h]

@[simp] theorem rxLatch_dataOut (b : Byte) (s : State) : (rxLatch b s).dataOut = s.dataOut := by unfold rxLatch; split <;> rfl
@[simp] theorem rxLatch_txRDY (b : Byte) (s : State) : (rxLatch b s).txRDY = s.txRDY := by unfold rxLatch; split <;> rfl
@[simp] theorem rxLatch_txE (b : Byte) (s : State) : (rxLatch b s).txE = s.txE := by unfold rxLatch; split <;> rfl
@[simp] theorem rxLatch_pe (b : Byte) (s : State) : (rxLatch b s).pe = s.pe := by unfold rxLatch; split <;> rfl
@[simp] theorem rxLatch_oe (b : Byte) (s : State) : (rxLatch b s).oe = s.oe := by unfold rxLatch; split <;> rfl
@[simp] theorem rxLatch_fe (b : Byte) (s : State) : (rxLatch b s).fe = s.fe := by unfold rxLatch; split <;> rfl
@[simp] theorem rxLatch_syndet (b : Byte) (s : State) : (rxLatch b s).syndet = s.syndet := by unfold rxLatch; split <;> rfl
@[simp] theorem rxLatch_dsr (b : Byte) (s : State) : (rxLatch b s).dsr = s.dsr := by unfold rxLatch; split <;> rfl
@[simp] theorem rxLatch_rxExhausted (b : Byte) (s : State) : (rxLatch b s).rxExhausted = s.rxExhausted := by unfold rxLatch; split <;> rfl
@[simp] theorem rxLatch_txPhase (b : Byte) (s : State) : (rxLatch b s).txPhase = s.txPhase := by unfold rxLatch; split <;> rfl
@[simp] theorem rxLatch_txRemaining (b : Byte) (s : State) : (rxLatch b s).txRemaining = s.txRemaining := by unfold rxLatch; split <;> rfl
@[simp] theorem rxLatch_tickCounter (b : Byte) (s : State) : (rxLatch b s).tickCounter = s.tickCounter := by unfold rxLatch; split <;> rfl
@[simp] theorem rxLatch_faulted (b : Byte) (s : State) : (rxLatch b s).faulted = s.faulted := by unfold rxLatch; split <;> rfl
@[simp] theorem rxLatch_faultInfo (b : Byte) (s : State) : (rxLatch b s).faultInfo = s.faultInfo := by unfold rxLatch; split <;> rfl
@[simp] theorem rxLatch_baudRate (b : Byte) (s : State) : (rxLatch b s).baudRate = s.baudRate := by unfold rxLatch; split <;> rfl
@[simp] theorem rxLatch_timeBase (b : Byte) (s : State) : (rxLatch b s).timeBase = s.timeBase := by unfold rxLatch; split <;> rfl
@[simp] theorem rxLatch_ticksPerHalfBit (b : Byte) (s : State) : (rxLatch b s).ticksPerHalfBit = s.ticksPerHalfBit := by unfold rxLatch; split <;> rfl
@[simp] theorem rxLatch_bitsPerFrame (b : Byte) (s : State) : (rxLatch b s).bitsPerFrame = s.bitsPerFrame := by unfold rxLatch; split <;> rfl
@[simp] theorem rxLatch_deadTicks (b : Byte) (s : State) : (rxLatch b s).deadTicks = s.deadTicks := by unfold rxLatch; split <;> rfl
@[simp] theorem rxLatch_inputSource (b : Byte) (s : State) : (rxLatch b s).inputSource = s.inputSource := by unfold rxLatch; split <;> rfl
@[simp] theorem rxLatch_sourcePos (b : Byte) (s : State) : (rxLatch b s).sourcePos = s.sourcePos := by unfold rxLatch; split <;> rfl
@[simp] theorem rxLatch_pollAnswers (b : Byte) (s : State) : (rxLatch b s).pollAnswers = s.pollAnswers := by unfold rxLatch; split <;> rfl
@[simp] theorem rxLatch_sink (b : Byte) (s : State) : (rxLatch b s).sink = s.sink := by unfold rxLatch; split <;> rfl
@[simp] theorem rxLatch_result (b : Byte) (s : State) : (rxLatch b s).result = s.result := by unfold rxLatch; split <;> rfl
@[simp] theorem rxLatch_pending (b : Byte) (s : State) : (rxLatch b s).pending = s.pending := by unfold rxLatch; split <;> rfl

@[simp] theorem receivePass_dataOut (s : State) : (receivePass s).dataOut = s.dataOut := by
  rcases receivePass_cases s with h | h | h | ⟨b, h⟩ | h | h | h <;> simp [h]
@[simp] theorem receivePass_txRDY (s : State) : (receivePass s).txRDY = s.txRDY := by
  rcases receivePass_cases s with h | h | h | ⟨b, h⟩ | h | h | h <;> simp [h]
@[simp] theorem receivePass_txE (s : State) : (receivePass s).txE = s.txE := by
  rcases receivePass_cases s with h | h | h | ⟨b, h⟩ | h | h | h <;> simp [h]
@[simp] theorem receivePass_pe (s : State) : (receivePass s).pe = s.pe := by
  rcases receivePass_cases s with h | h | h | ⟨b, h⟩ | h | h | h <;> simp [h]
@[simp] theorem receivePass_fe (s : State) : (receivePass s).fe = s.fe := by
  rcases receivePass_cases s with h | h | h | ⟨b, h⟩ | h | h | h <;> simp [h]
@[simp] theorem receivePass_syndet (s : State) : (receivePass s).syndet = s.syndet := by
  rcases receivePass_cases s with h | h | h | ⟨b, h⟩ | h | h | h <;> simp [h]
@[simp] theorem receivePass_dsr (s : State) : (receivePass s).dsr = s.dsr := by
  rcases receivePass_cases s with h | h | h | ⟨b, h⟩ | h | h | h <;> simp [h]
@[simp] theorem receivePass_txPhase (s : State) : (receivePass s).txPhase = s.txPhase := by
  rcases receivePass_cases s with h | h | h | ⟨b, h⟩ | h | h | h <;> simp [h]
@[simp] theorem receivePass_txRemaining (s : State) : (receivePass s).txRemaining = s.txRemaining := by
  rcases receivePass_cases s with h | h | h | ⟨b, h⟩ | h | h | h <;> simp [h]
@[simp] theorem receivePass_tickCounter (s : State) : (receivePass s).tickCounter = s.tickCounter := by
  rcases receivePass_cases s with h | h | h | ⟨b, h⟩ | h | h | h <;> simp [h]
@[simp] theorem receivePass_faulted (s : State) : (receivePass s).faulted = s.faulted := by
  rcases receivePass_cases s with h | h | h | ⟨b, h⟩ | h | h | h <;> simp [h]
@[simp] theorem receivePass_faultInfo (s : State) : (receivePass s).faultInfo = s.faultInfo := by
  rcases receivePass_cases s with h | h | h | ⟨b, h⟩ | h | h | h <;> simp [h]
@[simp] theorem receivePass_baudRate (s : State) : (receivePass s).baudRate = s.baudRate := by
  rcases receivePass_cases s with h | h | h | ⟨b, h⟩ | h | h | h <;> simp [h]
@[simp] theorem receivePass_timeBase (s : State) : (receivePass s).timeBase = s.timeBase := by
  rcases receivePass_cases s with h | h | h | ⟨b, h⟩ | h | h | h <;> simp [h]
@[simp] theorem receivePass_ticksPerHalfBit (s : State) : (receivePass s).ticksPerHalfBit = s.ticksPerHalfBit := by
  rcases receivePass_cases s with h | h | h | ⟨b, h⟩ | h | h | h <;> simp [h]
@[simp] theorem receivePass_bitsPerFrame (s : State) : (receivePass s).bitsPerFrame = s.bitsPerFrame := by
  rcases receivePass_cases s with h | h | h | ⟨b, h⟩ | h | h | h <;> simp [h]
@[simp] theorem receivePass_deadTicks (s : State) : (receivePass s).deadTicks = s.deadTicks := by
  rcases receivePass_cases s with h | h | h | ⟨b, h⟩ | h | h | h <;> simp [h]
@[simp] theorem receivePass_inputSource (s : State) : (receivePass s).inputSource = s.inputSource := by
  rcases receivePass_cases s with h | h | h | ⟨b, h⟩ | h | h | h <;> simp [h]
@[simp] theorem receivePass_sink (s : State) : (receivePass s).sink = s.sink := by
  rcases receivePass_cases s with h | h | h | ⟨b, h⟩ | h | h | h <;> simp [h]
@[simp] theorem receivePass_result (s : State) : (receivePass s).result = s.result := by
  rcases receivePass_cases s with h | h | h | ⟨b, h⟩ | h | h | h <;> simp [h]
@[simp] theorem receivePass_pending (s : State) : (receivePass s).pending = s.pending := by
  rcases receivePass_cases s with h | h | h | ⟨b, h⟩ | h | h | h <;> simp [h]

@[simp] theorem transmitPass_dataIn (s : State) : (transmitPass s).dataIn = s.dataIn := by
  rcases transmitPass_cases s with h | h | h <;> simp [h]
@[simp] theorem transmitPass_dataOut (s : State) : (transmitPass s).dataOut = s.dataOut := by
  rcases transmitPass_cases s with h | h | h <;> simp [h]
@[simp] theorem transmitPass_rxRDY (s : State) : (transmitPass s).rxRDY = s.rxRDY := by
  rcases transmitPass_cases s with h | h | h <;> simp [h]
@[simp] theorem transmitPass_pe (s : State) : (transmitPass s).pe = s.pe := by
  rcases transmitPass_cases s with h | h | h <;> simp [h]
@[simp] theorem transmitPass_oe (s : State) : (transmitPass s).oe = s.oe := by
  rcases transmitPass_cases s with h | h | h <;> simp [h]
@[simp] theorem transmitPass_fe (s : State) : (transmitPass s).fe = s.fe := by
  rcases transmitPass_cases s with h | h | h <;> simp [h]
@[simp] theorem transmitPass_syndet (s : State) : (transmitPass s).syndet = s.syndet := by
  rcases transmitPass_cases s with h | h | h <;> simp [h]
@[simp] theorem transmitPass_dsr (s : State) : (transmitPass s).dsr = s.dsr := by
  rcases transmitPass_cases s with h | h | h <;> simp [h]
@[simp] theorem transmitPass_rxPhase (s : State) : (transmitPass s).rxPhase = s.rxPhase := by
  rcases transmitPass_cases s with h | h | h <;> simp [h]
@[simp] theorem transmitPass_rxRemaining (s : State) : (transmitPass s).rxRemaining = s.rxRemaining := by
  rcases transmitPass_cases s with h | h | h <;> simp [h]
@[simp] theorem transmitPass_rxExhausted (s : State) : (transmitPass s).rxExhausted = s.rxExhausted := by
  rcases transmitPass_cases s with h | h | h <;> simp [h]
@[simp] theorem transmitPass_tickCounter (s : State) : (transmitPass s).tickCounter = s.tickCounter := by
  rcases transmitPass_cases s with h | h | h <;> simp [h]
@[simp] theorem transmitPass_faulted (s : State) : (transmitPass s).faulted = s.faulted := by
  rcases transmitPass_cases s with h | h | h <;> simp [h]
@[simp] theorem transmitPass_faultInfo (s : State) : (transmitPass s).faultInfo = s.faultInfo := by
  rcases transmitPass_cases s with h | h | h <;> simp [h]
@[simp] theorem transmitPass_baudRate (s : State) : (transmitPass s).baudRate = s.baudRate := by
  rcases transmitPass_cases s with h | h | h <;> simp [h]
@[simp] theorem transmitPass_timeBase (s : State) : (transmitPass s).timeBase = s.timeBase := by
  rcases transmitPass_cases s with h | h | h <;> simp [h]
@[simp] theorem transmitPass_ticksPerHalfBit (s : State) : (transmitPass s).ticksPerHalfBit = s.ticksPerHalfBit := by
  rcases transmitPass_cases s with h | h | h <;> simp [h]
@[simp] theorem transmitPass_bitsPerFrame (s : State) : (transmitPass s).bitsPerFrame = s.bitsPerFrame := by
  rcases transmitPass_cases s with h | h | h <;> simp [h]
@[simp] theorem transmitPass_deadTicks (s : State) : (transmitPass s).deadTicks = s.deadTicks := by
  rcases transmitPass_cases s with h | h | h <;> simp [h]
@[simp] theorem transmitPass_inputSource (s : State) : (transmitPass s).inputSource = s.inputSource := by
  rcases transmitPass_cases s with h | h | h <;> simp [h]
@[simp] theorem transmitPass_sourcePos (s : State) : (transmitPass s).sourcePos = s.sourcePos := by
  rcases transmitPass_cases s with h | h | h <;> simp [h]
@[simp] theorem transmitPass_pollAnswers (s : State) : (transmitPass s).pollAnswers = s.pollAnswers := by
  rcases transmitPass_cases s with h | h | h <;> simp [h]
@[simp] theorem transmitPass_result (s : State) : (transmitPass s).result = s.result := by
  rcases transmitPass_cases s with h | h | h <;> simp [h]
@[simp] theorem transmitPass_pending (s : State) : (transmitPass s).pending = s.pending := by
  rcases transmitPass_cases s with h | h | h <;> simp [h]

/-! The status byte, bit by bit (R64), and the words of the encoding (R49). -/

/-- Eight flags put together, bit 7 first, come back bit by bit. -/
theorem composed_bits : ∀ b7 b6 b5 b4 b3 b2 b1 b0 : Bool,
    let b : Byte := BitVec.ofBool b7 ++ BitVec.ofBool b6 ++ BitVec.ofBool b5 ++ BitVec.ofBool b4 ++
      BitVec.ofBool b3 ++ BitVec.ofBool b2 ++ BitVec.ofBool b1 ++ BitVec.ofBool b0
    b[0] = b0 ∧ b[1] = b1 ∧ b[2] = b2 ∧ b[3] = b3 ∧ b[4] = b4 ∧ b[5] = b5 ∧ b[6] = b6 ∧ b[7] = b7 := by
  decide

@[simp] theorem statusByte_bit0 (s : State) : (statusByte s)[0] = s.txRDY :=
  (composed_bits s.dsr s.syndet s.fe s.oe s.pe s.txE s.rxRDY s.txRDY).1
@[simp] theorem statusByte_bit1 (s : State) : (statusByte s)[1] = s.rxRDY :=
  (composed_bits s.dsr s.syndet s.fe s.oe s.pe s.txE s.rxRDY s.txRDY).2.1
@[simp] theorem statusByte_bit2 (s : State) : (statusByte s)[2] = s.txE :=
  (composed_bits s.dsr s.syndet s.fe s.oe s.pe s.txE s.rxRDY s.txRDY).2.2.1
@[simp] theorem statusByte_bit3 (s : State) : (statusByte s)[3] = s.pe :=
  (composed_bits s.dsr s.syndet s.fe s.oe s.pe s.txE s.rxRDY s.txRDY).2.2.2.1
@[simp] theorem statusByte_bit4 (s : State) : (statusByte s)[4] = s.oe :=
  (composed_bits s.dsr s.syndet s.fe s.oe s.pe s.txE s.rxRDY s.txRDY).2.2.2.2.1
@[simp] theorem statusByte_bit5 (s : State) : (statusByte s)[5] = s.fe :=
  (composed_bits s.dsr s.syndet s.fe s.oe s.pe s.txE s.rxRDY s.txRDY).2.2.2.2.2.1
@[simp] theorem statusByte_bit6 (s : State) : (statusByte s)[6] = s.syndet :=
  (composed_bits s.dsr s.syndet s.fe s.oe s.pe s.txE s.rxRDY s.txRDY).2.2.2.2.2.2.1
@[simp] theorem statusByte_bit7 (s : State) : (statusByte s)[7] = s.dsr :=
  (composed_bits s.dsr s.syndet s.fe s.oe s.pe s.txE s.rxRDY s.txRDY).2.2.2.2.2.2.2

/-- Two status bytes are equal only when all eight flags are. -/
theorem flags_eq_of_statusByte_eq {s t : State} (h : statusByte s = statusByte t) :
    s.txRDY = t.txRDY ∧ s.rxRDY = t.rxRDY ∧ s.txE = t.txE ∧ s.pe = t.pe ∧ s.oe = t.oe ∧ s.fe = t.fe ∧
      s.syndet = t.syndet ∧ s.dsr = t.dsr := by
  refine ⟨?_, ?_, ?_, ?_, ?_, ?_, ?_, ?_⟩
  · simpa using congrArg (·.getLsbD 0) h
  · simpa using congrArg (·.getLsbD 1) h
  · simpa using congrArg (·.getLsbD 2) h
  · simpa using congrArg (·.getLsbD 3) h
  · simpa using congrArg (·.getLsbD 4) h
  · simpa using congrArg (·.getLsbD 5) h
  · simpa using congrArg (·.getLsbD 6) h
  · simpa using congrArg (·.getLsbD 7) h

theorem ticksFor_pos (timeBase baud : Nat) : 1 ≤ ticksFor timeBase baud := Nat.le_max_left _ _

end Sys2Proof.Machine
end

