-- ==== Sys2Proof/Laws/PerInstr.lean ====
section
/-! SUPPORT. A statement for all operations, one lemma per constructor: what the host presents for an operation is well formed (R53). -/
namespace Sys2Proof.Laws.PresentedWell

/-- The event that presents `i` is well formed: its word, if it has one, is a word of the format (R53). -/
def Statement (i : Instr) : Prop := (encodeEvent i).wf = true

theorem rdData : Statement .rdData := by unfold Statement; decide
theorem rdStatus : Statement .rdStatus := by unfold Statement; decide
theorem wrData (v : Byte) : Statement (.wrData v) := Bool.or_eq_true_iff.mpr (.inl (assemble_isWrite false true v))
theorem wrControl (v : Byte) : Statement (.wrControl v) := Bool.or_eq_true_iff.mpr (.inl (assemble_isWrite true true v))
theorem tick : Statement .tick := rfl
theorem reset : Statement .reset := rfl
theorem setBaud (b : Int) : Statement (.setBaud b) := rfl
theorem construct (t b f n : Int) (src : InputSource) : Statement (.construct t b f n src) := rfl
theorem now : Statement .now := rfl

end Sys2Proof.Laws.PresentedWell
end

