-- ==== Sys2Proof/Laws/Run.lean ====
section
/-! SUPPORT. What an operation does to a live device, once, as a function of the state, and runs of operations as folds of it. -/
namespace Sys2Proof.Machine

/-- The effect of an operation on a live device. -/
def liveEffect : Instr → State → State
  | .rdData, s => answer (.byte s.dataIn) { s with rxRDY := false }
  | .rdStatus, s => answer (.byte (statusByte s)) s
  | .wrData v, s => if s.txRDY then startFrame (loadDataOut v s) else loadDataOut v s
  | .wrControl v, s => controlWrite v s
  | .tick, s => transmitPass (receivePass (advanceClock s))
  | .reset, s => resetDevice s
  | .setBaud b, s =>
    match checkBaud b with
    | some info => raiseConfigError info s
    | none => setRate b.toNat s
  | .construct t b f n src, s =>
    match checkParameters t b f n with
    | some info => raiseConfigError info s
    | none => bringUp t.toNat b.toNat f.toNat n.toNat src s
  | .now, s => answer (.ticks (nowTicks s)) s

/-- A live device runs every operation. -/
theorem exec_of_live (i : Instr) {s : State} (h : s.faulted = false) : exec i s = .next (liveEffect i s) := by
  cases i with
  | construct t b f n src => simp only [exec, execConstruct, liveEffect]; cases checkParameters t b f n <;> rfl
  | rdData => rw [exec, execRdData, whenLive_of_live h]; rfl
  | rdStatus => rw [exec, execRdStatus, whenLive_of_live h]; rfl
  | wrData v => rw [exec, execWrData, whenLive_of_live h]; rfl
  | wrControl v => rw [exec, execWrControl, whenLive_of_live h]; rfl
  | tick => rw [exec, execTick, whenLive_of_live h]; rfl
  | reset => rw [exec, execReset, whenLive_of_live h]; rfl
  | setBaud b => rw [exec, execSetBaud, whenLive_of_live h]; rfl
  | now => rw [exec, execNow, whenLive_of_live h]; rfl

/-- A faulted device runs nothing but CONSTRUCT. -/
theorem exec_of_faulted {i : Instr} {s : State} (h : s.faulted = true)
    (hi : ∀ t b f n src, i ≠ .construct t b f n src) : exec i s = .fault .deviceFaulted := by
  cases i with
  | construct t b f n src => exact absurd rfl (hi t b f n src)
  | rdData => rw [exec, execRdData, whenLive_of_faulted h]
  | rdStatus => rw [exec, execRdStatus, whenLive_of_faulted h]
  | wrData v => rw [exec, execWrData, whenLive_of_faulted h]
  | wrControl v => rw [exec, execWrControl, whenLive_of_faulted h]
  | tick => rw [exec, execTick, whenLive_of_faulted h]
  | reset => rw [exec, execReset, whenLive_of_faulted h]
  | setBaud b => rw [exec, execSetBaud, whenLive_of_faulted h]
  | now => rw [exec, execNow, whenLive_of_faulted h]

/-- All that an operation can answer with a next state. -/
theorem exec_eq_next {i : Instr} {s t : State} (h : exec i s = .next t) :
    t = liveEffect i s ∧ (s.faulted = false ∨ ∃ tb b f n src, i = .construct tb b f n src) := by
  cases hs : s.faulted with
  | false =>
    rw [exec_of_live i hs] at h
    exact ⟨by cases h; rfl, .inl rfl⟩
  | true =>
    cases i with
    | construct tb b f n src =>
      refine ⟨?_, .inr ⟨_, _, _, _, _, rfl⟩⟩
      simp only [exec, execConstruct, liveEffect] at h ⊢
      cases hc : checkParameters tb b f n <;> (rw [hc] at h; cases h; rfl)
    | _ => rw [exec_of_faulted hs (by simp)] at h; cases h

/-- No operation of a device's life leaves it faulted. -/
theorem liveEffect_live {i : Instr} {s : State} (hi : keepsInstance i = true) (h : s.faulted = false) :
    (liveEffect i s).faulted = false := by
  cases i with
  | construct t b f n src => simp [keepsInstance] at hi
  | setBaud b => simp_all [keepsInstance, liveEffect, checkBaud_of_pos]
  | wrData v => simp only [liveEffect]; split <;> simpa
  | wrControl v => simp only [liveEffect, controlWrite, controlWriteWith]; split <;> simpa
  | _ => simpa [liveEffect] using h

/-- The operations' effects one after the other. -/
def liveRun (is : List Instr) (s : State) : State := is.foldl (fun s i => liveEffect i s) s

@[simp] theorem liveRun_nil (s : State) : liveRun [] s = s := rfl
@[simp] theorem liveRun_cons (i : Instr) (is : List Instr) (s : State) :
    liveRun (i :: is) s = liveRun is (liveEffect i s) := rfl

/-- A run within the life of a device completes. -/
theorem runInstrs_of_live {is : List Instr} {s : State} (h : s.faulted = false) (his : is.all keepsInstance = true) :
    runInstrs is s = .next (liveRun is s) ∧ (liveRun is s).faulted = false := by
  induction is generalizing s with
  | nil => exact ⟨rfl, h⟩
  | cons i is ih =>
    simp only [List.all_cons, Bool.and_eq_true] at his
    rw [runInstrs, exec_of_live i h]
    exact ih (liveEffect_live his.1 h) his.2

theorem keepsInstance_of_undisturbing {is : List Instr} (h : is.all undisturbing = true) : is.all keepsInstance = true := by
  simp only [List.all_eq_true, undisturbing, Bool.and_eq_true] at h ⊢
  exact fun i hi => (h i hi).1

@[simp] theorem runInstrs_nil (s : State) : runInstrs [] s = .next s := rfl

theorem runInstrs_cons_of_live (i : Instr) (is : List Instr) {s : State} (h : s.faulted = false) :
    runInstrs (i :: is) s = runInstrs is (liveEffect i s) := by
  rw [runInstrs, exec_of_live i h]

theorem takenBytes_cons_of_live (i : Instr) (is : List Instr) {s : State} (h : s.faulted = false) :
    takenBytes (i :: is) s = (if i = .tick then (offeredByte s).toList else []) ++ takenBytes is (liveEffect i s) := by
  rw [takenBytes, exec_of_live i h]

theorem framesStarted_cons_of_live (i : Instr) (is : List Instr) {s : State} (h : s.faulted = false) :
    framesStarted (i :: is) s = (startsFrame i s).toNat + framesStarted is (liveEffect i s) := by
  rw [framesStarted, exec_of_live i h]

@[simp] theorem ticksIn_nil : ticksIn [] = 0 := rfl
@[simp] theorem ticksIn_cons_tick (is : List Instr) : ticksIn (.tick :: is) = ticksIn is + 1 := by simp [ticksIn]
theorem ticksIn_cons_of_ne {i : Instr} (is : List Instr) (h : i ≠ .tick) : ticksIn (i :: is) = ticksIn is := by
  simp [ticksIn, h]

end Sys2Proof.Machine
end

