-- ==== Sys2Proof/Tests/Slice0.lean ====
section
/-! SUPPORT. Tests: the WellFormed smoke, words written out from the spec's encoding, one or two single steps per operation with the values
of 95_test_vectors.md, and for every statement with hypotheses a state that meets them. -/
namespace Sys2Proof.Tests
open Sys2Proof Sys2Proof.Machine

/-! ## WellFormed refuses (R6, R53) -/

theorem test_setBaud_zero_illformed : (Instr.setBaud 0).wf = false := by decide
theorem test_construct_timeBase_illformed : (Instr.construct 0 9600 10 3 .interactive).wf = false := by decide
theorem test_construct_baud_illformed : (Instr.construct 1000000 0 10 3 .interactive).wf = false := by decide
theorem test_construct_frame_illformed : (Instr.construct 1000000 9600 0 3 .interactive).wf = false := by decide
theorem test_construct_deadTicks_illformed : (Instr.construct 1000000 9600 10 (-1) .interactive).wf = false := by decide
theorem test_construct_no_deadTicks_wellformed : (Instr.construct 1 1 1 0 .interactive).wf = true := by decide
theorem test_read_word_with_data_illformed : BusWord.wf 0b0000000001#10 = false := by decide
theorem test_status_word_with_data_illformed : Event.wf (.bus 0b1011111111#10) = false := by decide

/-! ## Decoding: A0, W, D written out bit by bit (R49, R51) -/

theorem test_decode_rdData : decode 0b0_0_00000000#10 = some .rdData := by decide
theorem test_decode_rdStatus : decode 0b1_0_00000000#10 = some .rdStatus := by decide
theorem test_decode_wrData_41 : decode 0b0_1_01000001#10 = some (.wrData 0x41#8) := by decide
theorem test_decode_wrData_80 : decode 0b0_1_10000000#10 = some (.wrData 0x80#8) := by decide
theorem test_decode_wrControl_10 : decode 0b1_1_00010000#10 = some (.wrControl 0x10#8) := by decide
theorem test_decode_wrControl_FF : decodeTableWord 16 0x3FF = some (.wrControl 0xFF#8) := by decide
theorem test_decode_refuses_data_on_read : decode 0b0_0_10000000#10 = none ∧ decode 0b1_0_00000001#10 = none := by decide
theorem test_decode_refuses_eleventh_bit : decodeTableWord 16 0x400 = none := by decide
theorem test_encode_wrData : encode (.wrData 0x61#8) = some 0x161#10 := by decide
theorem test_encode_wrControl : encode (.wrControl 0x40#8) = some 0x340#10 := by decide
theorem test_host_events_have_no_word :
    [encode .tick, encode .reset, encode (.setBaud 1), encode (.construct 1 1 1 0 .interactive), encode .now] =
      [none, none, none, none, none] := by decide

/-! ## Single steps, with the values of 95_test_vectors.md -/

/-- What a step leaves, if it goes on. -/
abbrev after (i : Instr) (s : State) : Option State := nextState (exec i s)

/-- RxPhase Active with the given answers to come (V5). -/
abbrev active (answers : List (Option Byte)) : State :=
  { State.reset with rxPhase := .active, oe := false, dataIn := 0x10#8, pollAnswers := answers }

/-- Sending 0x41 with the given countdown (V6). -/
abbrev sending (remaining : Nat) : State :=
  { State.reset with txPhase := .sending, txRDY := false, txE := false, dataOut := 0x41#8, txRemaining := remaining }

/-- V7, row 2: DataIn 0x10 is returned and the status is then 0x05. -/
theorem test_rdData_returns_and_clears :
    (after .rdData { active [] with rxRDY := true }).map (fun t => (t.result, statusByte t)) =
      some (.byte 0x10#8, 0x05#8) := by decide
/-- V7, row 4: RD_DATA keeps OE. -/
theorem test_rdData_keeps_overrun :
    (after .rdData { active [] with rxRDY := true, oe := true }).map statusByte = some 0x15#8 := by decide
/-- V7, row 5: the reset status is 0x15. -/
theorem test_rdStatus_after_reset : (after .rdStatus State.reset).map (·.result) = some (.byte 0x15#8) := by decide
/-- V3, row 8: after an overrun, transmitter idle. -/
theorem test_rdStatus_after_overrun :
    (after .rdStatus { active [] with rxRDY := true, oe := true }).map (·.result) = some (.byte 0x17#8) := by decide
/-- V6, row 1. -/
theorem test_wrData_starts_frame :
    (after (.wrData 0x41#8) State.reset).map (fun t => (t.txPhase, t.txRemaining, t.txRDY, t.txE, t.dataOut)) =
      some (.sending, 1040, false, false, 0x41#8) := by decide
/-- V6, row 5: the busy transmitter keeps its countdown. -/
theorem test_wrData_overwrites :
    (after (.wrData 0x42#8) (sending 500)).map (fun t => (t.txRemaining, t.dataOut)) = some (500, 0x42#8) := by decide
/-- V4, row 2: status 0x17 becomes 0x07 under 0xFF. -/
theorem test_wrControl_FF :
    (after (.wrControl 0xFF#8) { active [] with rxRDY := true, oe := true }).map statusByte = some 0x07#8 := by decide
/-- V4, row 3: 0xEF changes nothing. -/
theorem test_wrControl_EF : (after (.wrControl 0xEF#8) State.reset).map statusByte = some 0x15#8 := by decide
/-- V5, row 8: an overrun drops 0x20. -/
theorem test_tick_overrun :
    (after .tick { active [some 0x20#8] with rxRDY := true }).map (fun t => (t.oe, t.dataIn, t.rxPhase)) =
      some (true, 0x10#8, .active) := by decide
/-- V6, row 4: emission. -/
theorem test_tick_emission :
    (after .tick (sending 1)).map (fun t => (t.sink, t.txRDY, t.txE, t.txPhase)) =
      some ([0x41#8], true, true, .idle) := by decide
/-- V8, row 1: RESET while Sending. -/
theorem test_reset_cancels :
    (after .reset { sending 540 with tickCounter := 500, dataIn := 0x10#8 }).map
      (fun t => (statusByte t, t.tickCounter, t.txPhase, t.dataIn)) = some (0x15#8, 0, .idle, 0x00#8) := by decide
/-- V8, row 3: RESET keeps the rate. -/
theorem test_reset_keeps_rate :
    (after .reset { State.reset with baudRate := 19200, ticksPerHalfBit := 26 }).map
      (fun t => (t.baudRate, t.ticksPerHalfBit)) = some (19200, 26) := by decide
/-- V6, row 8. -/
theorem test_setBaud_19200 :
    (after (.setBaud 19200) (sending 700)).map (fun t => (t.ticksPerHalfBit, t.txRemaining)) = some (26, 700) := by decide
/-- V8, row 4. -/
theorem test_setBaud_zero_faults :
    (after (.setBaud 0) State.reset).map (fun t => (t.faulted, t.faultInfo)) =
      some (true, some ⟨.baudNotPositive, 0⟩) := by decide
/-- V8, row 6. -/
theorem test_construct_reference :
    (after (.construct 1000000 9600 10 3 .interactive) { State.reset with faulted := true }).map
      (fun t => (t.ticksPerHalfBit, t.faulted, statusByte t)) = some (52, false, 0x15#8) := by decide
/-- V8, row 9: the first check wins. -/
theorem test_construct_first_check :
    (after (.construct 0 0 10 3 .interactive) State.reset).map (·.faultInfo) =
      some (some ⟨.timeBaseNotPositive, 0⟩) := by decide
/-- V2, row 2. -/
theorem test_now : (after .now { State.reset with tickCounter := 5 }).map (·.result) = some (.ticks 5) := by decide

/-- V1: truncation, the exact quotient and the clamp. -/
theorem test_ticksFor :
    [ticksFor 1000000 1200, ticksFor 1000000 115200, ticksFor 1000000 250001, ticksFor 1000000 500001, ticksFor 1 1] =
      [416, 4, 1, 1, 1] := by decide

/-- The word placed by withFetchWord is what the next step runs (V6, row 1). -/
theorem test_step_runs_placed_word :
    (nextState (step (State.reset.withFetchWord 16 0x141))).map (fun t => (t.dataOut, t.txRemaining)) =
      some (0x41#8, 1040) := by decide

/-! ## Witnesses: states that meet the hypotheses of each statement -/

/-- A receiver about to poll a byte, DataIn free. -/
abbrev latching (deadTicks : Nat) : State := { active [some 0x20#8] with deadTicks := deadTicks }
/-- A redirect source with two bytes, the receiver Active. -/
abbrev redirected (pos : Nat) : State :=
  { active [] with inputSource := .redirect [0x10#8, 0x20#8], sourcePos := pos }

theorem witness_DecoderFollowsOpcodeTable : decode 0x141#10 = some (.wrData 0x41#8) := by decide
theorem witness_PresentedOperationReadsBack :
    decodeEvent (.bus 0x310#10) = some (.wrControl 0x10#8) ∧ encode .rdStatus = some 0x200#10 := by decide
theorem witness_StepRunsFirstPendingEvent :
    ({ State.reset with pending := [.bus 0x200#10, .tick] } : State).pending = .bus 0x200#10 :: [.tick] ∧
      decodeEvent (.bus 0x200#10) = some .rdStatus := by decide
theorem witness_StepIdlesAndRefusesBadWords :
    (State.reset.faulted = false ∧ State.reset.pending = []) ∧
      ({ State.reset with pending := [.bus 0x2FF#10] } : State).pending = [.bus 0x2FF#10] ∧
      (0x2FF#10 : BusWord).getLsbD 8 = false ∧ (0x2FF#10 : BusWord).extractLsb' 0 8 ≠ 0#8 := by decide
theorem witness_RdDataReturnsDataInAndClearsReady : State.reset.faulted = false := by decide
theorem witness_RdStatusReturnsFlagsWithoutMutation : State.reset.faulted = false := by decide
theorem witness_StatusByteIsComposedFromFlags :
    (statusByte State.reset).toNat = 0x15 ∧ statusByte State.reset = statusByte { State.reset with dataIn := 0xFF#8 } := by decide
theorem witness_StatusReadSeesThePrecedingEvent :
    ((after .tick State.reset).map (·.faulted) = some false) ∧ State.reset.faulted = false ∧ State.reset.TxInv ∧
      (sending 1).TxInv := by decide
theorem witness_WrDataStartsFrameOrOverwrites :
    State.reset.faulted = false ∧ State.reset.txRDY = true ∧ (sending 1).faulted = false ∧ (sending 1).txRDY = false := by decide
theorem witness_WrControlBitFourResetsErrors :
    State.reset.faulted = false ∧ 0xFF#8 &&& 0x10#8 = 0x10#8 ∧ 0x10#8 &&& 0x10#8 = 0x10#8 ∧ 0xEF#8 &&& 0x10#8 = 0x00#8 ∧
      0x00#8 &&& 0x10#8 = 0x00#8 := by decide
theorem witness_RegisterMapByOffsetAndDirection : State.reset.faulted = false ∧ (sending 1).faulted = false := by decide
theorem witness_EachFieldHasItsWriter :
    (after .rdData State.reset).isSome ∧ (after .rdStatus State.reset).isSome ∧ (after (.wrData 0x41#8) State.reset).isSome ∧
      (after (.wrControl 0x10#8) State.reset).isSome := by decide
theorem witness_TickReceiveTransitions :
    (State.reset.rxPhase = .idle ∧ State.reset.rxExhausted = false) ∧
      (({ State.reset with rxExhausted := true } : State).rxPhase = .idle) ∧
      (({ State.reset with rxPhase := .deadTime, rxRemaining := 2 } : State).rxRemaining = 2) ∧
      (({ State.reset with rxPhase := .deadTime, rxRemaining := 1 } : State).rxRemaining = 1) ∧
      (pollAnswer (latching 1) = .data 0x20#8 ∧ (latching 1).rxRDY = false ∧ 0 < (latching 1).deadTicks) ∧
      (pollAnswer (latching 0) = .data 0x20#8 ∧ (latching 0).deadTicks = 0) ∧
      (pollAnswer { latching 1 with rxRDY := true } = .data 0x20#8) ∧
      (pollAnswer (redirected 2) = .endOfInput ∧ (redirected 2).rxPhase = .active) ∧
      (pollAnswer (active []) = .noData ∧ (active []).rxPhase = .active) := by decide
theorem witness_TickTransmitTransitions :
    State.reset.txPhase = .idle ∧ ((sending 2).txPhase = .sending ∧ 1 < (sending 2).txRemaining) ∧
      ((sending 1).txPhase = .sending ∧ (sending 1).txRemaining = 1 ∧ (sending 1).TxInv) := by decide
theorem witness_TickCountsAndLeavesTheRest : State.reset.faulted = false := by decide
theorem witness_TickPollsOnlyWhileActive :
    State.reset.rxPhase ≠ .active ∧ ((active []).rxPhase = .active ∧ (active []).inputSource = .interactive) ∧
      ((redirected 1).rxPhase = .active ∧ (redirected 1).inputSource = .redirect [0x10#8, 0x20#8]) ∧
      (redirected 2).faulted = false := by decide
theorem witness_PollAnswersFollowInputSource :
    (redirected 1).sourcePos < 2 ∧ 2 ≤ (redirected 2).sourcePos ∧
      (active [some 0x00#8]).pollAnswers = some 0x00#8 :: [] ∧ (active [none]).pollAnswers = none :: [] := by decide
theorem witness_PassesReadOnlyTheirOwnSide :
    ((active []).rxPhase, (active []).rxRemaining, (active []).deadTicks) =
        (({ active [] with tickCounter := 9, baudRate := 1, txRDY := false } : State).rxPhase, 0, 3) ∧
      ((sending 3).txPhase, (sending 3).txRemaining) =
        (({ sending 3 with tickCounter := 9, dataIn := 0xFF#8 } : State).txPhase, 3) := by decide
theorem witness_TicksForIsPositiveAndMonotone :
    0 < 1000000 ∧ 0 < 9600 ∧ 9600 ≤ 19200 ∧ ticksFor 1000000 250000 = 2 ∧ ticksFor 1000000 250001 = 1 := by decide
theorem witness_TxDelayIsCloseToTheIdealFrame :
    State.reset.ConfigInv ∧ 2 * State.reset.baudRate ≤ State.reset.timeBase := by decide
theorem witness_NowReturnsTicksSinceReset :
    State.reset.faulted = false ∧ ({ State.reset with faulted := true } : State).faulted = true := by decide
theorem witness_TickCounterCountsOnlyTicks :
    State.reset.faulted = false ∧ [Instr.tick, .wrData 0x41#8, .setBaud 1, .tick].all undisturbing = true := by decide
theorem witness_SetBaudWritesRateAndHalfBit : State.reset.faulted = false ∧ 0 < 1 := by decide
theorem witness_SetBaudKeepsRunningCountdowns :
    (State.reset.faulted = false ∧ State.reset.txRDY = true) ∧ (sending 700).faulted = false ∧ (0 : Int) < 19200 := by decide
theorem witness_SetBaudNotPositiveStopsTheDevice :
    State.reset.faulted = false ∧ (0 : Int) ≤ 0 ∧ (-5 : Int) ≤ 0 := by decide
theorem witness_FaultedDeviceHasNoStep :
    ({ State.reset with faulted := true, pending := [.reset] } : State).faulted = true ∧
      ({ State.reset with faulted := true, pending := [.reset] } : State).pending.head? = some .reset := by decide
theorem witness_BusCyclesAndTicksNeverFault :
    State.reset.faulted = false ∧ Instr.isBusCycle (.wrControl 0xFF#8) = true ∧ Instr.isBusCycle .tick = false := by decide
theorem witness_OnlyIllegalOperandsFault :
    State.reset.faulted = false ∧ (Instr.setBaud 1).wf = true ∧ (Instr.setBaud 0).wf = false := by decide
theorem witness_ConstructReportsFirstFailingCheck :
    ((0 : Int) ≤ 0) ∧ ((0 : Int) < 1 ∧ (0 : Int) ≤ 0) ∧ ((0 : Int) < 1 ∧ (-1 : Int) ≤ 0) ∧ ((0 : Int) < 1 ∧ (-1 : Int) < 0) := by
  decide
theorem witness_ResetLeavesPowerOnValues : (sending 540).faulted = false := by decide
theorem witness_ConstructBringsTheDeviceUp : 0 < 1000000 ∧ 0 < 9600 ∧ 0 < 10 := by decide
theorem witness_ResetIsConstructionWithSameConfiguration : (redirected 1).faulted = false ∧ (redirected 1).Inv := by decide
theorem witness_EveryStepKeepsTheInvariant :
    ({ sending 1 with pending := [.tick] } : State).Inv ∧
      (nextState (step { sending 1 with pending := [.tick] })).isSome := by decide
theorem witness_OnlyEightStatusBytesOccur : State.reset.Inv ∧ (sending 1).Inv := by decide
theorem witness_TransmitFlagsMoveTogether :
    ((after (.wrData 0x41#8) State.reset).map (·.txRDY) = some false ∧ State.reset.txRDY = true) ∧
      ((after .tick (sending 1)).map (·.txRDY) = some true ∧ (sending 1).txRDY = false) := by decide
theorem witness_RxReadyLineEdges :
    ((latching 3).faulted = false ∧ (latching 3).rxPhase = .active ∧ (latching 3).rxRDY = false ∧
      pollAnswer (latching 3) = .data 0x20#8) ∧
      (Instr.construct 1 1 1 0 .interactive).wf = true ∧
      ((after .tick (latching 0)).map rxrdyOut = some true ∧ rxrdyOut (latching 0) = false) ∧
      ((after .rdData { active [] with rxRDY := true }).map rxrdyOut = some false) := by decide
theorem witness_OverrunFlagIsSticky :
    ((after (.wrControl 0x10#8) State.reset).map (·.oe) = some false ∧ State.reset.oe = true) ∧
      ((after .tick { latching 3 with rxRDY := true }).map (·.oe) = some true ∧ (latching 3).oe = false) := by decide
theorem witness_FrameIsEmittedAfterTxDelayLastWriteWins :
    State.reset.faulted = false ∧ State.reset.txRDY = true ∧ [Instr.tick, .wrData 0x42#8].all undisturbing = true ∧
      ticksIn [.tick, .wrData 0x42#8] < txDelay State.reset ∧
      (ticksIn [.tick, .wrData 0x42#8] + 1 =
        txDelay { State.reset with bitsPerFrame := 1, ticksPerHalfBit := 1 }) := by decide
theorem witness_NoPollDuringDeadTime :
    ((latching 1).faulted = false ∧ (latching 1).rxPhase = .active ∧ (latching 1).rxRDY = false ∧
      pollAnswer (latching 1) = .data 0x20#8 ∧ [Instr.rdData, .tick].all undisturbing = true ∧
      ticksIn [.rdData, .tick] = (latching 1).deadTicks) ∧ ticksIn [.rdData] ≤ (latching 0).deadTicks := by decide
/-- An unread byte, one poll without input, then a byte. -/
abbrev unread : State := { active [none, some 0x20#8] with rxRDY := true }
theorem witness_NextByteOverrunsUnlessDataWasRead :
    unread.faulted = false ∧ unread.rxRDY = true ∧ [Instr.rdData, .tick].all undisturbing = true ∧
      ((nextState (runInstrs [.rdData, .tick] unread)).bind offeredByte = some 0x20#8 ∧
        takenBytes [.rdData, .tick] unread = []) ∧
      ((nextState (runInstrs [.tick] unread)).bind offeredByte = some 0x20#8 ∧ takenBytes [.tick] unread = []) := by decide
theorem witness_RedirectBytesAreTakenInOrder :
    (redirected 0).faulted = false ∧ [Instr.tick, .reset, .tick].all keepsInstance = true ∧
      takenBytes [.tick, .reset, .tick, .tick] (redirected 0) = [0x10#8, 0x20#8] := by decide
theorem witness_OneEmissionPerCountdown :
    (sending 1).faulted = false ∧ (sending 1).Inv ∧ [Instr.tick, .wrData 0x42#8].all undisturbing = true := by decide
theorem witness_ExhaustionEndsReceptionUntilReset :
    ({ redirected 2 with rxPhase := .idle, rxExhausted := true } : State).faulted = false ∧
      ({ redirected 2 with rxPhase := .idle, rxExhausted := true } : State).rxPhase = .idle ∧
      [Instr.tick, .rdData].all undisturbing = true := by decide
theorem witness_BusCyclesRevealOnlyTheCpuView :
    SameCpuView State.reset { State.reset with dataOut := 0xFF#8, tickCounter := 7, rxPhase := .active, deadTicks := 0 } ∧
      State.reset.faulted = false ∧ [Instr.rdData, .wrData 0x41#8, .rdStatus].all Instr.isBusCycle = true := by decide
theorem witness_ReadBeforeOrAfterLatchDiffer :
    (latching 3).faulted = false ∧ (latching 3).rxPhase = .active ∧ (latching 3).rxRDY = false ∧
      pollAnswer (latching 3) = .data 0x20#8 := by decide
theorem witness_ScriptPseudoFormsExpand :
    (ScriptLine.ticks 2).expand = some [.tick, .tick] ∧ (ScriptLine.readInto .rdStatus "s").expand = some [.rdStatus] := by decide
theorem witness_WaitTxEEndsAfterTxRemainingTicks :
    ((sending 2).faulted = false ∧ (sending 2).Inv) ∧ (State.reset.faulted = false ∧ State.reset.Inv) := by decide
/-- R55 with V2 and V6: a receiver just reset and a byte in flight; the bit is clear, then set. -/
theorem witness_PollingLoopReadsTestsAndTicks :
    ((sending 1).faulted = false ∧ (statusByte (sending 1)).getLsbD StatusWait.txRdy.bit = false ∧
      (statusByte State.reset).getLsbD StatusWait.txRdy.bit = true) ∧
      ({ State.reset with faulted := true } : State).faulted = true ∧
      (waitLoop .rxRdy 2 (latching 3)).isSome := by decide
theorem witness_PollingLoopEndsAtFirstSetBit :
    (latching 3).faulted = false ∧ (waitLoop .rxRdy 1 (latching 3)) = none ∧
      (waitLoop .rxRdy 2 (latching 3)).map (·.tickCounter) = some 1 := by decide

end Sys2Proof.Tests
end

section
/-! SUPPORT. The transmit flags: every operation keeps both, clears both or sets both, and which operation does which (R19, R20). -/
namespace Sys2Proof.Machine

@[simp] theorem controlWrite_txRDY (d : Byte) (s : State) : (controlWrite d s).txRDY = s.txRDY := by
  unfold controlWrite controlWriteWith; split <;> rfl
@[simp] theorem controlWrite_txE (d : Byte) (s : State) : (controlWrite d s).txE = s.txE := by
  unfold controlWrite controlWriteWith; split <;> rfl

/-- Both transmit flags have the value `b`. -/
def TxFlagsAre (b : Bool) (t : State) : Prop := t.txRDY = b ∧ t.txE = b

/-- Both transmit flags of `t` are those of `s`. -/
def TxFlagsKept (s t : State) : Prop := t.txRDY = s.txRDY ∧ t.txE = s.txE

/-- The countdown's last TICK emits the byte (R90). -/
theorem transmitPass_of_last {s : State} (hp : s.txPhase = .sending) (hr : s.txRemaining = 1) :
    transmitPass s = txEmit (txCountdown s) := by
  simp [transmitPass, hp, hr]

/-- A transmit pass keeps the flags or sets both as it hands DataOut to the sink. -/
theorem transmitPass_txFlags (s : State) :
    TxFlagsKept s (transmitPass s) ∨
      TxFlagsAre true (transmitPass s) ∧ (transmitPass s).sink = s.sink ++ [s.dataOut] := by
  rcases transmitPass_cases s with h | h | h <;> rw [h]
  · exact .inl ⟨rfl, rfl⟩
  · exact .inl ⟨rfl, rfl⟩
  · exact .inr ⟨⟨rfl, rfl⟩, rfl⟩

/-- All that an operation can do to the transmit flags. -/
theorem liveEffect_txFlags (i : Instr) (s : State) :
    TxFlagsKept s (liveEffect i s) ∨
      ((∃ v, i = .wrData v) ∧ TxFlagsAre false (liveEffect i s)) ∨
      (((i = .tick ∧ (liveEffect i s).sink = s.sink ++ [s.dataOut]) ∨ i = .reset ∨
        ∃ t b f n src, i = .construct t b f n src) ∧ TxFlagsAre true (liveEffect i s)) := by
  cases i with
  | rdData => exact .inl ⟨rfl, rfl⟩
  | rdStatus => exact .inl ⟨rfl, rfl⟩
  | now => exact .inl ⟨rfl, rfl⟩
  | wrControl v => exact .inl ⟨controlWrite_txRDY v s, controlWrite_txE v s⟩
  | reset => exact .inr (.inr ⟨.inr (.inl rfl), rfl, rfl⟩)
  | wrData v =>
    simp only [liveEffect]
    split
    · exact .inr (.inl ⟨⟨v, rfl⟩, rfl, rfl⟩)
    · exact .inl ⟨rfl, rfl⟩
  | tick =>
    rw [liveEffect]
    rcases transmitPass_txFlags (receivePass (advanceClock s)) with ⟨hRdy, hE⟩ | ⟨hset, hsink⟩
    · exact .inl ⟨by simpa using hRdy, by simpa using hE⟩
    · exact .inr (.inr ⟨.inl ⟨rfl, by simpa using hsink⟩, hset⟩)
  | setBaud b =>
    simp only [liveEffect]
    split <;> exact .inl ⟨rfl, rfl⟩
  | construct t b f n src =>
    simp only [liveEffect]
    split
    · exact .inl ⟨rfl, rfl⟩
    · exact .inr (.inr ⟨.inr (.inr ⟨t, b, f, n, src, rfl⟩), rfl, rfl⟩)

/-- A WR_DATA that finds TxRDY set clears both flags (R100). -/
theorem liveEffect_wrData_txFlags {s : State} (v : Byte) (h : s.txRDY = true) :
    TxFlagsAre false (liveEffect (.wrData v) s) := by
  rw [liveEffect, if_pos h]
  exact ⟨rfl, rfl⟩

/-- The countdown's last TICK sets both flags (R90). -/
theorem liveEffect_tick_txFlags {s : State} (hp : s.txPhase = .sending) (hr : s.txRemaining = 1) :
    TxFlagsAre true (liveEffect .tick s) := by
  rw [liveEffect, transmitPass_of_last (by simpa using hp) (by simpa using hr)]
  exact ⟨rfl, rfl⟩

/-- Settles O39: the three writers of the transmit flags each write both, and no other operation writes either. -/
theorem transmitFlagsMoveTogether : Obligations.TransmitFlagsMoveTogether := by
  intro i s t h
  obtain ⟨rfl, -⟩ := exec_eq_next h
  have hcases := liveEffect_txFlags i s
  refine ⟨?together, ?cleared, ?atReset, ?emitted, ?onlyCleared, ?onlySet⟩
  case together =>
    rcases hcases with hkept | ⟨-, hRdy, hE⟩ | ⟨-, hRdy, hE⟩
    · exact .inl hkept
    · exact .inr (hE.trans hRdy.symm)
    · exact .inr (hE.trans hRdy.symm)
  case cleared =>
    rintro v rfl hset
    exact liveEffect_wrData_txFlags v hset
  case atReset =>
    rintro rfl
    exact ⟨rfl, rfl⟩
  case emitted =>
    rintro rfl hp hr
    exact liveEffect_tick_txFlags hp hr
  case onlyCleared =>
    intro hset hclear
    rcases hcases with ⟨hRdy, -⟩ | ⟨hwrite, -⟩ | ⟨-, hRdy, -⟩
    · simp [hRdy, hset] at hclear
    · exact hwrite
    · simp [hRdy] at hclear
  case onlySet =>
    intro hclear hset
    rcases hcases with ⟨hRdy, -⟩ | ⟨-, hRdy, -⟩ | ⟨hwriter, -⟩
    · simp [hRdy, hclear] at hset
    · simp [hRdy] at hset
    · exact hwriter

end Sys2Proof.Machine
end

section
/-! SUPPORT. A legal SET_BAUD and a WR_DATA that finds TxRDY set, each by its effect, and the baud change against the countdowns (R60, R61). -/
namespace Sys2Proof.Machine

/-- A legal baud rate takes effect (R60). -/
theorem liveEffect_setBaud_of_pos {b : Int} (hb : 0 < b) (s : State) :
    liveEffect (.setBaud b) s = setRate b.toNat s := by
  rw [liveEffect, checkBaud_of_pos hb]

/-- A WR_DATA that finds TxRDY set latches its byte and starts a frame (R100). -/
theorem liveEffect_wrData_of_ready (v : Byte) {s : State} (h : s.txRDY = true) :
    liveEffect (.wrData v) s = startFrame (loadDataOut v s) := by
  rw [liveEffect, if_pos h]

/-- Settles O27: SET_BAUD writes neither countdown nor phase, and the next frame loads the TxDelay it finds. -/
theorem setBaudKeepsRunningCountdowns : Obligations.SetBaudKeepsRunningCountdowns := by
  intro b s hlive hb
  have hlive' : (setRate b.toNat s).faulted = false := by rwa [setRate_faulted]
  refine ⟨setRate b.toNat s, ?setBaud, ?kept, ?nextFrame⟩
  case setBaud => rw [exec_of_live _ hlive, liveEffect_setBaud_of_pos hb]
  case kept => simp only [setRate_txRemaining, setRate_txPhase, setRate_rxRemaining, setRate_rxPhase]
  case nextFrame =>
    intro v hready
    have hready' : (setRate b.toNat s).txRDY = true := by rwa [setRate_txRDY]
    refine ⟨startFrame (loadDataOut v (setRate b.toNat s)), ?_, ?_⟩
    · rw [exec_of_live _ hlive', liveEffect_wrData_of_ready v hready']
    · rw [startFrame_txRemaining, txDelay, loadDataOut_ticksPerHalfBit, loadDataOut_bitsPerFrame, setRate_bitsPerFrame]

end Sys2Proof.Machine
end

section
/-! SUPPORT. The status byte as a number, and a status read right behind another operation (R63 to R66). -/
namespace Sys2Proof.Machine

/-- A flag put below a word is one Horner step: the word doubled, plus the flag. -/
theorem toNat_append_ofBool {n : Nat} (x : BitVec n) (b : Bool) :
    (x ++ BitVec.ofBool b).toNat = x.toNat * 2 + b.toNat :=
  BitVec.toNat_concat x b

/-- The layout of R64 as weights. -/
theorem statusByte_toNat (s : State) : (statusByte s).toNat =
    s.dsr.toNat * 0x80 + s.syndet.toNat * 0x40 + s.fe.toNat * 0x20 + s.oe.toNat * 0x10 +
      s.pe.toNat * 0x08 + s.txE.toNat * 0x04 + s.rxRDY.toNat * 0x02 + s.txRDY.toNat * 0x01 := by
  simp only [statusByte, toNat_append_ofBool, BitVec.toNat_ofBool]
  omega

/-- Settles O9: the weighted sum is the composition read as a number, and it names no field but the eight flags. -/
theorem statusByteIsComposedFromFlags : Obligations.StatusByteIsComposedFromFlags := by
  refine ⟨statusByte_toNat, fun s t hflags => ?_⟩
  simp only [Prod.mk.injEq] at hflags
  obtain ⟨hdsr, hsyndet, hfe, hoe, hpe, htxE, hrxRDY, htxRDY⟩ := hflags
  apply BitVec.eq_of_toNat_eq
  rw [statusByte_toNat, statusByte_toNat, hdsr, hsyndet, hfe, hoe, hpe, htxE, hrxRDY, htxRDY]

/-- A status read right behind an operation of the device's life answers the flags that operation left (R66). -/
theorem runInstrs_then_rdStatus {i : Instr} {s : State} (hlive : s.faulted = false) (hi : keepsInstance i = true) :
    runInstrs [i, .rdStatus] s =
      .next (answer (.byte (statusByte (liveEffect i s))) (liveEffect i s)) := by
  rw [runInstrs_cons_of_live i _ hlive, runInstrs_cons_of_live _ _ (liveEffect_live hi hlive)]
  rfl

/-- A WR_DATA leaves both flags clear: it clears them, or finds the transmitter busy, where (I1) has both clear (R33, R100). -/
theorem liveEffect_wrData_txFlags_of_txInv (v : Byte) {s : State} (hinv : s.TxInv) :
    TxFlagsAre false (liveEffect (.wrData v) s) := by
  obtain ⟨hRdy, hE, -⟩ := hinv
  cases hready : s.txRDY with
  | true => exact liveEffect_wrData_txFlags v hready
  | false =>
    have hbusy : liveEffect (.wrData v) s = loadDataOut v s := by simp [liveEffect, hready]
    have hnotEmpty : s.txE = false := hE.trans (hRdy.symm.trans hready)
    rw [hbusy]
    exact ⟨hready, hnotEmpty⟩

/-- Settles O10: a status read composes its byte from the state the operation before it left. -/
theorem statusReadSeesThePrecedingEvent : Obligations.StatusReadSeesThePrecedingEvent := by
  refine ⟨?anyOperation, ?afterWrData, ?afterRdData⟩
  case anyOperation =>
    intro i s t _ hlive
    exact ⟨_, exec_of_live .rdStatus hlive, rfl⟩
  case afterWrData =>
    intro v s hlive hinv
    obtain ⟨hRdy, hE⟩ := liveEffect_wrData_txFlags_of_txInv v hinv
    exact ⟨_, _, runInstrs_then_rdStatus hlive rfl, rfl,
      (statusByte_bit0 _).trans hRdy, (statusByte_bit2 _).trans hE⟩
  case afterRdData =>
    intro s hlive
    exact ⟨_, _, runInstrs_then_rdStatus hlive rfl, rfl, statusByte_bit1 _⟩

end Sys2Proof.Machine
end

section
/-! SUPPORT. The transmit side of a TICK, arm by arm (R88 to R91). -/
namespace Sys2Proof.Machine

/-- An idle transmitter does nothing (R91). -/
theorem transmitPass_of_idle {s : State} (hp : s.txPhase = .idle) : transmitPass s = s := by
  simp only [transmitPass, hp]

/-- Before its last TICK the countdown only runs (R89). -/
theorem transmitPass_of_countdown {s : State} (hp : s.txPhase = .sending) (hr : 1 < s.txRemaining) :
    transmitPass s = txCountdown s := by
  have hrunning : s.txRemaining - 1 ≠ 0 := by omega
  simp only [transmitPass, hp, if_neg hrunning]

/-- (I1): a busy transmitter has both flags clear (R33). -/
theorem txFlagsAre_false_of_sending {s : State} (hinv : s.TxInv) (hp : s.txPhase = .sending) : TxFlagsAre false s := by
  obtain ⟨hRdy, hE, -⟩ := hinv
  exact ⟨by simp [hRdy, hp], by simp [hE, hp]⟩

/-- Settles O16: the counter and the receive pass leave the transmit side alone, so each clause is one arm of the transmit pass. -/
theorem tickTransmitTransitions : Obligations.TickTransmitTransitions := by
  intro s hlive
  refine ⟨_, exec_of_live .tick hlive, ?idle, ?countdown, ?emission⟩
  case idle =>
    intro hp
    rw [liveEffect, transmitPass_of_idle (by simpa using hp)]
    simp [hp]
  case countdown =>
    intro hp hr
    rw [liveEffect, transmitPass_of_countdown (by simpa using hp) (by simpa using hr)]
    simp [hp]
  case emission =>
    intro hp hr
    refine ⟨?_, fun hinv => txFlagsAre_false_of_sending hinv hp⟩
    rw [liveEffect, transmitPass_of_last (by simpa using hp) (by simpa using hr)]
    simp [hr]

end Sys2Proof.Machine
end

section
/-! SUPPORT. The CPU interface: what each bus cycle and each pass can write (R104), and the two reads with their repeats (R98, R99). -/
namespace Sys2Proof.Machine

/-- A WR_DATA that finds TxRDY clear latches its byte and does nothing else (R100, D9). -/
theorem liveEffect_wrData_of_busy (v : Byte) {s : State} (h : s.txRDY = false) :
    liveEffect (.wrData v) s = loadDataOut v s := by
  simp [liveEffect, h]

/-- A control write is the error reset or nothing (R69). -/
theorem controlWrite_cases (d : Byte) (s : State) : controlWrite d s = clearErrors s ∨ controlWrite d s = s := by
  unfold controlWrite controlWriteWith
  split
  · exact .inl rfl
  · exact .inr rfl

theorem liveEffect_wrData_frame (v : Byte) (s : State) :
    let t := liveEffect (.wrData v) s
    t = { s with
      dataOut := t.dataOut, txRDY := t.txRDY, txE := t.txE, txPhase := t.txPhase, txRemaining := t.txRemaining } := by
  cases hready : s.txRDY with
  | true => rw [liveEffect_wrData_of_ready v hready]; rfl
  | false => rw [liveEffect_wrData_of_busy v hready]; rfl

theorem controlWrite_frame (d : Byte) (s : State) :
    let t := controlWrite d s
    t = { s with fe := t.fe, oe := t.oe, pe := t.pe } := by
  rcases controlWrite_cases d s with h | h
  · rw [h]; rfl
  · rw [h]

/-- The laws of the receive pass, field by field, put together. -/
theorem receivePass_frame (s : State) :
    let t := receivePass s
    t = { s with
      dataIn := t.dataIn, rxRDY := t.rxRDY, oe := t.oe, rxPhase := t.rxPhase, rxRemaining := t.rxRemaining,
      rxExhausted := t.rxExhausted, sourcePos := t.sourcePos, pollAnswers := t.pollAnswers } := by
  apply State.ext <;> simp

theorem transmitPass_frame (s : State) :
    let t := transmitPass s
    t = { s with
      txRDY := t.txRDY, txE := t.txE, txPhase := t.txPhase, txRemaining := t.txRemaining, sink := t.sink } := by
  rcases transmitPass_cases s with h | h | h
  · rw [h]
  · rw [h]; rfl
  · rw [h]; rfl

/-- Settles O14: a bus cycle that has a step is its effect on the device, and each effect and each pass has its frame. -/
theorem eachFieldHasItsWriter : Obligations.EachFieldHasItsWriter := by
  intro s t
  refine ⟨?rdData, ?rdStatus, ?wrData, ?wrControl, ?receive, ?transmit⟩
  case rdData =>
    intro h
    obtain ⟨rfl, -⟩ := exec_eq_next h
    rfl
  case rdStatus =>
    intro h
    obtain ⟨rfl, -⟩ := exec_eq_next h
    rfl
  case wrData =>
    intro v h
    obtain ⟨rfl, -⟩ := exec_eq_next h
    exact liveEffect_wrData_frame v s
  case wrControl =>
    intro v h
    obtain ⟨rfl, -⟩ := exec_eq_next h
    exact controlWrite_frame v s
  case receive =>
    rintro rfl
    exact receivePass_frame s
  case transmit =>
    rintro rfl
    exact transmitPass_frame s

/-- RD_DATA keeps the byte it answers, so a second one finds nothing to change (R98). -/
theorem liveEffect_rdData_idem (s : State) :
    liveEffect .rdData (liveEffect .rdData s) = liveEffect .rdData s := rfl

/-- The status byte does not depend on the latest answer, so a second RD_STATUS gives the same one (R71, R99). -/
theorem liveEffect_rdStatus_idem (s : State) :
    liveEffect .rdStatus (liveEffect .rdStatus s) = liveEffect .rdStatus s := rfl

/-- An operation of the device's life whose effect is idempotent can be repeated: the second time changes nothing. -/
theorem exec_again_of_idem {i : Instr} {s : State} (hlive : s.faulted = false) (hi : keepsInstance i = true)
    (hidem : liveEffect i (liveEffect i s) = liveEffect i s) :
    exec i (liveEffect i s) = .next (liveEffect i s) := by
  rw [exec_of_live i (liveEffect_live hi hlive), hidem]

/-- Settles O7: RD_DATA is its effect, written out, and that effect is idempotent. -/
theorem rdDataReturnsDataInAndClearsReady : Obligations.RdDataReturnsDataInAndClearsReady := by
  refine ⟨by decide, fun s hlive => ⟨liveEffect .rdData s, exec_of_live .rdData hlive, rfl, ?again⟩⟩
  case again => exact exec_again_of_idem hlive rfl (liveEffect_rdData_idem s)

/-- Settles O8: RD_STATUS is its effect, which writes the answer alone, and that effect is idempotent. -/
theorem rdStatusReturnsFlagsWithoutMutation : Obligations.RdStatusReturnsFlagsWithoutMutation := by
  refine ⟨by decide, fun s hlive => ⟨liveEffect .rdStatus s, exec_of_live .rdStatus hlive, rfl, ?again⟩⟩
  case again => exact exec_again_of_idem hlive rfl (liveEffect_rdStatus_idem s)

end Sys2Proof.Machine
end

section
/-! SUPPORT. The fault record within a device's life: bus cycles and TICKs belong to that life, and none of its operations writes the
record (R105, R108). -/
namespace Sys2Proof.Machine

@[simp] theorem controlWrite_faultInfo (d : Byte) (s : State) : (controlWrite d s).faultInfo = s.faultInfo := by
  rcases controlWrite_cases d s with h | h <;> rw [h]
  exact clearErrors_faultInfo s

/-- No operand takes a bus cycle, and no phase a TICK, out of the device's life. -/
theorem keepsInstance_of_busCycle_or_tick {i : Instr} (hi : i.isBusCycle = true ∨ i = .tick) : keepsInstance i = true := by
  rcases hi with hbus | rfl
  · cases i with
    | rdData | rdStatus | wrData _ | wrControl _ => rfl
    | tick | reset | setBaud _ | construct _ _ _ _ _ | now => cases hbus
  · rfl

/-- No operation of a device's life writes the fault record. -/
theorem liveEffect_faultInfo {i : Instr} (hi : keepsInstance i = true) (s : State) :
    (liveEffect i s).faultInfo = s.faultInfo := by
  cases i with
  | rdData | rdStatus | reset | now => rfl
  | wrData v => rw [liveEffect_wrData_frame]
  | wrControl v => exact controlWrite_faultInfo v s
  | tick => rw [liveEffect, transmitPass_faultInfo, receivePass_faultInfo, advanceClock_faultInfo]
  | setBaud b =>
    have hb : 0 < b := of_decide_eq_true hi
    rw [liveEffect_setBaud_of_pos hb, setRate_faultInfo]
  | construct t b f n src => cases hi

/-- Settles O30: a bus cycle or a TICK is an operation of the device's life, so it goes on, stays live and keeps the fault record. -/
theorem busCyclesAndTicksNeverFault : Obligations.BusCyclesAndTicksNeverFault := by
  intro i s hlive hi
  have hkeeps := keepsInstance_of_busCycle_or_tick hi
  exact ⟨liveEffect i s, exec_of_live i hlive, liveEffect_live hkeeps hlive, liveEffect_faultInfo hkeeps s⟩

end Sys2Proof.Machine
end


section
/-! SUPPORT. The bus word as its three fields, the opcode-table rows over them, and decode against encode (R49 to R53). -/
namespace Sys2Proof

/-- A word is put together again from its fields (R49). -/
theorem assemble_fields (w : BusWord) : assemble w.regSelect w.isWrite w.data = w := by
  apply BitVec.eq_of_getLsbD_eq
  intro k hk
  simp only [assemble, BusWord.regSelect, BusWord.isWrite, BusWord.data, BitVec.getLsbD_append, BitVec.getLsbD_extractLsb',
    BitVec.getLsbD_ofBool]
  obtain hlow | rfl | rfl : k < 8 ∨ k = 8 ∨ k = 9 := by omega
  · rw [if_pos hlow, decide_eq_true hlow, Bool.true_and, Nat.zero_add]
  · rfl
  · rfl

/-- The words are the triples of A0, W and D (R49). -/
theorem exists_assemble (w : BusWord) : ∃ a wr d, w = assemble a wr d :=
  ⟨_, _, _, (assemble_fields w).symm⟩

theorem assemble_inj {a wr a' wr' : Bool} {d d' : Byte} :
    assemble a wr d = assemble a' wr' d' ↔ a = a' ∧ wr = wr' ∧ d = d' := by
  refine ⟨fun h => ⟨?_, ?_, ?_⟩, ?_⟩
  · simpa using congrArg BusWord.regSelect h
  · simpa using congrArg BusWord.isWrite h
  · simpa using congrArg BusWord.data h
  · rintro ⟨rfl, rfl, rfl⟩
    rfl

/-! The decoder on an assembled word, one equation per row of the map (R51), and the refusal (R53). -/

@[simp] theorem decode_assemble_rdData : decode (assemble false false 0#8) = some .rdData := by simp [decode]
@[simp] theorem decode_assemble_rdStatus : decode (assemble true false 0#8) = some .rdStatus := by simp [decode]
@[simp] theorem decode_assemble_wrData (d : Byte) : decode (assemble false true d) = some (.wrData d) := by simp [decode]
@[simp] theorem decode_assemble_wrControl (d : Byte) : decode (assemble true true d) = some (.wrControl d) := by simp [decode]

theorem decode_assemble_read_with_data (a : Bool) {d : Byte} (hd : d ≠ 0#8) : decode (assemble a false d) = none := by
  cases a <;> simp [decode, hd]

/-- A word decodes to `i` exactly when it is the word that presents `i` (R51). -/
theorem encode_eq_some_iff (i : Instr) (w : BusWord) : encode i = some w ↔ decode w = some i := by
  constructor
  · intro h
    cases i with
    | rdData | rdStatus => cases h; simp
    | wrData v | wrControl v => cases h; simp
    | tick | reset | setBaud _ | construct _ _ _ _ _ | now => cases h
  · intro h
    obtain ⟨a, wr, d, rfl⟩ := exists_assemble w
    match a, wr with
    | false, true => rw [decode_assemble_wrData] at h; cases h; rfl
    | true, true => rw [decode_assemble_wrControl] at h; cases h; rfl
    | false, false =>
      by_cases hd : d = 0#8
      · rw [hd, decode_assemble_rdData] at h; cases h; rw [hd]; rfl
      · rw [decode_assemble_read_with_data _ hd] at h; cases h
    | true, false =>
      by_cases hd : d = 0#8
      · rw [hd, decode_assemble_rdStatus] at h; cases h; rw [hd]; rfl
      · rw [decode_assemble_read_with_data _ hd] at h; cases h

/-- An operation with a bus word is presented as that word. -/
theorem encodeEvent_of_encode {i : Instr} {w : BusWord} (h : encode i = some w) : encodeEvent i = .bus w := by
  cases i with
  | rdData | rdStatus | wrData _ | wrControl _ => cases h; rfl
  | tick | reset | setBaud _ | construct _ _ _ _ _ | now => cases h

/-- What the host presents for an operation reads back as that operation. -/
@[simp] theorem decodeEvent_encodeEvent (i : Instr) : decodeEvent (encodeEvent i) = some i := by
  cases i with
  | rdData | rdStatus | wrData _ | wrControl _ => simp [encodeEvent, decodeEvent]
  | tick | reset | setBaud _ | construct _ _ _ _ _ | now => rfl

/-- An event stands for one operation only. -/
theorem encodeEvent_of_decodeEvent {e : Event} {i : Instr} (h : decodeEvent e = some i) : encodeEvent i = e := by
  cases e with
  | bus w => exact encodeEvent_of_encode ((encode_eq_some_iff i w).mpr h)
  | tick | reset | setBaud _ | construct _ _ _ _ _ | now => cases h; rfl

/-- Settles O3: every word is assembled from its fields, and on those the decoder and the encoder are inverse row by row. -/
theorem presentedOperationReadsBack : Obligations.PresentedOperationReadsBack :=
  ⟨decodeEvent_encodeEvent, fun _ _ => encodeEvent_of_decodeEvent, encode_eq_some_iff⟩

/-- Settles O1, on the six fixed words. -/
theorem opcodeMapWordsDecode : Obligations.OpcodeMapWordsDecode := by
  unfold Obligations.OpcodeMapWordsDecode
  decide

/-- Masking keeps A0 and W under a mask that has both bits set, and masks D. -/
theorem assemble_and_mask (a wr : Bool) (d m : Byte) : assemble a wr d &&& assemble true true m = assemble a wr (d &&& m) := by
  have hbit (b : Bool) : BitVec.ofBool b &&& BitVec.ofBool true = BitVec.ofBool b := by cases b <;> rfl
  simp only [assemble]
  rw [BitVec.and_append, BitVec.and_append, hbit, hbit]

/-- A row that fixes A0 and W and masks D covers a word when A0 and W are its own and D agrees under the mask. -/
theorem covers_assemble (mnemonic : String) (a wr a' wr' : Bool) (d d' m : Byte) :
    (OpcodeRow.mk mnemonic (assemble a' wr' d') (assemble true true m)).covers (assemble a wr d) =
      decide (a = a' ∧ wr = wr' ∧ d &&& m = d') := by
  rw [OpcodeRow.covers, assemble_and_mask, Bool.eq_iff_iff, beq_iff_eq, decide_eq_true_iff, assemble_inj]

/-- The rows of the table, each pattern and mask by its fields. -/
theorem opcodeRows_eq : opcodeRows =
    [⟨"RD_DATA", assemble false false 0#8, assemble true true 0xFF#8⟩,
      ⟨"RD_STATUS", assemble true false 0#8, assemble true true 0xFF#8⟩,
      ⟨"WR_DATA", assemble false true 0#8, assemble true true 0#8⟩,
      ⟨"WR_CONTROL", assemble true true 0#8, assemble true true 0#8⟩] := by decide

theorem and_allOnes_byte (d : Byte) : d &&& 0xFF#8 = d := BitVec.and_allOnes

theorem busWord_wf_assemble (a wr : Bool) (d : Byte) : (assemble a wr d).wf = (wr || d == 0#8) := by
  change ((assemble a wr d).isWrite || (assemble a wr d).data == 0#8) = _
  simp

/-- Settles O2: for each value of A0 and W one row is left, and for a read it covers the word with D = 0 alone. -/
theorem decoderFollowsOpcodeTable : Obligations.DecoderFollowsOpcodeTable := by
  intro w
  obtain ⟨a, wr, d, rfl⟩ := exists_assemble w
  rw [busWord_wf_assemble, opcodeRows_eq]
  change _ ∧ _ ∧ _ ∧ ∀ v, _ → v = (assemble a wr d).data
  match a, wr with
  | false, true => simp [covers_assemble, List.find?, List.filter, Instr.mnemonic]
  | true, true => simp [covers_assemble, List.find?, List.filter, Instr.mnemonic]
  | false, false | true, false =>
    by_cases hd : d = 0#8
    · subst hd
      simp [covers_assemble, List.find?, List.filter, Instr.mnemonic]
    · simp [covers_assemble, List.find?, List.filter, and_allOnes_byte, hd, decode_assemble_read_with_data _ hd]

end Sys2Proof
end


section
/-! SUPPORT. The two sides of the state: a pass reads and writes its own alone, so the passes commute (R44, R86, R96). -/
namespace Sys2Proof.Machine

/-- The two states agree on all that a receive pass reads or writes (R86). -/
structure SameRxSide (s t : State) : Prop where
  rxPhase : s.rxPhase = t.rxPhase
  rxRemaining : s.rxRemaining = t.rxRemaining
  rxExhausted : s.rxExhausted = t.rxExhausted
  rxRDY : s.rxRDY = t.rxRDY
  dataIn : s.dataIn = t.dataIn
  oe : s.oe = t.oe
  deadTicks : s.deadTicks = t.deadTicks
  inputSource : s.inputSource = t.inputSource
  sourcePos : s.sourcePos = t.sourcePos
  pollAnswers : s.pollAnswers = t.pollAnswers

/-- The two states agree on all that a transmit pass reads or writes (R96). -/
structure SameTxSide (s t : State) : Prop where
  txPhase : s.txPhase = t.txPhase
  txRemaining : s.txRemaining = t.txRemaining
  dataOut : s.dataOut = t.dataOut
  txRDY : s.txRDY = t.txRDY
  txE : s.txE = t.txE
  sink : s.sink = t.sink

/-- The two states agree on all that is on neither side of a TICK's passes. -/
structure SameOutsidePasses (s t : State) : Prop where
  pe : s.pe = t.pe
  fe : s.fe = t.fe
  syndet : s.syndet = t.syndet
  dsr : s.dsr = t.dsr
  tickCounter : s.tickCounter = t.tickCounter
  faulted : s.faulted = t.faulted
  faultInfo : s.faultInfo = t.faultInfo
  baudRate : s.baudRate = t.baudRate
  timeBase : s.timeBase = t.timeBase
  ticksPerHalfBit : s.ticksPerHalfBit = t.ticksPerHalfBit
  bitsPerFrame : s.bitsPerFrame = t.bitsPerFrame
  result : s.result = t.result
  pending : s.pending = t.pending

/-- A state is its two sides and the rest. -/
theorem eq_of_sameSides {s t : State} (hrx : SameRxSide s t) (htx : SameTxSide s t) (hrest : SameOutsidePasses s t) :
    s = t := by
  obtain ⟨_, _, _, _, _, _, _, _, _, _⟩ := hrx
  obtain ⟨_, _, _, _, _, _⟩ := htx
  obtain ⟨_, _, _, _, _, _, _, _, _, _, _, _, _⟩ := hrest
  apply State.ext <;> assumption

theorem SameRxSide.trans {s t u : State} (h : SameRxSide s t) (k : SameRxSide t u) : SameRxSide s u :=
  ⟨h.1.trans k.1, h.2.trans k.2, h.3.trans k.3, h.4.trans k.4, h.5.trans k.5, h.6.trans k.6, h.7.trans k.7,
    h.8.trans k.8, h.9.trans k.9, h.10.trans k.10⟩

theorem SameRxSide.symm {s t : State} (h : SameRxSide s t) : SameRxSide t s :=
  ⟨h.1.symm, h.2.symm, h.3.symm, h.4.symm, h.5.symm, h.6.symm, h.7.symm, h.8.symm, h.9.symm, h.10.symm⟩

theorem SameTxSide.trans {s t u : State} (h : SameTxSide s t) (k : SameTxSide t u) : SameTxSide s u :=
  ⟨h.1.trans k.1, h.2.trans k.2, h.3.trans k.3, h.4.trans k.4, h.5.trans k.5, h.6.trans k.6⟩

theorem SameTxSide.symm {s t : State} (h : SameTxSide s t) : SameTxSide t s :=
  ⟨h.1.symm, h.2.symm, h.3.symm, h.4.symm, h.5.symm, h.6.symm⟩

/-- The poll reads the backend's input alone (R37). -/
theorem pollAnswer_congr {s t : State} (hsource : s.inputSource = t.inputSource) (hpos : s.sourcePos = t.sourcePos)
    (hanswers : s.pollAnswers = t.pollAnswers) : pollAnswer s = pollAnswer t := by
  unfold pollAnswer
  rw [hsource, hpos, hanswers]

/-! What a poll does to the backend's input, source by source (R37). -/

theorem afterPoll_of_interactive {s : State} (h : s.inputSource = .interactive) :
    afterPoll s = { s with pollAnswers := s.pollAnswers.tail } := by
  simp only [afterPoll, h]

theorem afterPoll_of_redirect_byte {s : State} {bytes : List Byte} (h : s.inputSource = .redirect bytes)
    (hpos : s.sourcePos < bytes.length) : afterPoll s = { s with sourcePos := s.sourcePos + 1 } := by
  simp only [afterPoll, h, List.getElem?_eq_getElem hpos]

theorem afterPoll_of_redirect_end {s : State} {bytes : List Byte} (h : s.inputSource = .redirect bytes)
    (hpos : bytes.length ≤ s.sourcePos) : afterPoll s = s := by
  simp only [afterPoll, h, List.getElem?_eq_none hpos]

theorem afterPoll_sameRxSide {s t : State} (h : SameRxSide s t) : SameRxSide (afterPoll s) (afterPoll t) := by
  cases hsource : s.inputSource with
  | interactive =>
    rw [afterPoll_of_interactive hsource, afterPoll_of_interactive (h.inputSource ▸ hsource)]
    exact { h with pollAnswers := congrArg List.tail h.pollAnswers }
  | redirect bytes =>
    have hsource' := h.inputSource ▸ hsource
    rcases Nat.lt_or_ge s.sourcePos bytes.length with hpos | hpos
    · rw [afterPoll_of_redirect_byte hsource hpos, afterPoll_of_redirect_byte hsource' (h.sourcePos ▸ hpos)]
      exact { h with sourcePos := congrArg (· + 1) h.sourcePos }
    · rw [afterPoll_of_redirect_end hsource hpos, afterPoll_of_redirect_end hsource' (h.sourcePos ▸ hpos)]
      exact h

/-! The arms of the receive pass, case by case (R75 to R80). -/

theorem rxIdle_of_exhausted {s : State} (h : s.rxExhausted = true) : rxIdle s = s := by
  simp [rxIdle, h]

theorem rxIdle_of_not_exhausted {s : State} (h : s.rxExhausted = false) : rxIdle s = { s with rxPhase := .active } := by
  simp [rxIdle, h]

theorem rxLatch_of_deadTicks {s : State} (b : Byte) (h : 0 < s.deadTicks) :
    rxLatch b s = { s with dataIn := b, rxRDY := true, rxPhase := .deadTime, rxRemaining := s.deadTicks } :=
  if_pos h

theorem rxLatch_of_no_deadTicks {s : State} (b : Byte) (h : s.deadTicks = 0) :
    rxLatch b s = { s with dataIn := b, rxRDY := true } :=
  if_neg (by omega)

@[simp] theorem rxActive_noData (s : State) : rxActive .noData s = s := rfl
@[simp] theorem rxActive_endOfInput (s : State) : rxActive .endOfInput s = rxExhaust s := rfl

theorem rxActive_data_of_full {s : State} (b : Byte) (h : s.rxRDY = true) : rxActive (.data b) s = rxOverrun s :=
  if_pos h

theorem rxActive_data_of_free {s : State} (b : Byte) (h : s.rxRDY = false) : rxActive (.data b) s = rxLatch b s :=
  if_neg (by simp [h])

/-! Each arm of the receive pass keeps the agreement. -/

theorem rxIdle_sameRxSide {s t : State} (h : SameRxSide s t) : SameRxSide (rxIdle s) (rxIdle t) := by
  cases hexh : s.rxExhausted with
  | true => rwa [rxIdle_of_exhausted hexh, rxIdle_of_exhausted (h.rxExhausted ▸ hexh)]
  | false =>
    rw [rxIdle_of_not_exhausted hexh, rxIdle_of_not_exhausted (h.rxExhausted ▸ hexh)]
    exact { h with rxPhase := rfl }

theorem rxDeadTime_sameRxSide {s t : State} (h : SameRxSide s t) : SameRxSide (rxDeadTime s) (rxDeadTime t) :=
  { h with
    rxPhase := by rw [rxDeadTime_rxPhase, rxDeadTime_rxPhase, h.rxRemaining]
    rxRemaining := congrArg (· - 1) h.rxRemaining }

theorem rxLatch_sameRxSide {s t : State} (b : Byte) (h : SameRxSide s t) : SameRxSide (rxLatch b s) (rxLatch b t) := by
  rcases Nat.eq_zero_or_pos s.deadTicks with hdead | hdead
  · rw [rxLatch_of_no_deadTicks b hdead, rxLatch_of_no_deadTicks b (h.deadTicks ▸ hdead)]
    exact { h with dataIn := rfl, rxRDY := rfl }
  · rw [rxLatch_of_deadTicks b hdead, rxLatch_of_deadTicks b (h.deadTicks ▸ hdead)]
    exact { h with dataIn := rfl, rxRDY := rfl, rxPhase := rfl, rxRemaining := h.deadTicks }

theorem rxActive_sameRxSide {s t : State} (r : PollAnswer) (h : SameRxSide s t) :
    SameRxSide (rxActive r s) (rxActive r t) := by
  cases r with
  | noData => exact h
  | endOfInput => exact { h with rxPhase := rfl, rxExhausted := rfl }
  | data b =>
    cases hfull : s.rxRDY with
    | true =>
      rw [rxActive_data_of_full b hfull, rxActive_data_of_full b (h.rxRDY ▸ hfull)]
      exact { h with oe := rfl }
    | false =>
      rw [rxActive_data_of_free b hfull, rxActive_data_of_free b (h.rxRDY ▸ hfull)]
      exact rxLatch_sameRxSide b h

/-- A receive pass reads its own side alone: states that agree there still do after it (R86). -/
theorem receivePass_sameRxSide {s t : State} (h : SameRxSide s t) : SameRxSide (receivePass s) (receivePass t) := by
  unfold receivePass
  rw [← h.rxPhase, ← pollAnswer_congr h.inputSource h.sourcePos h.pollAnswers]
  split
  · exact rxIdle_sameRxSide h
  · exact rxDeadTime_sameRxSide h
  · exact rxActive_sameRxSide _ (afterPoll_sameRxSide h)

theorem txCountdown_sameTxSide {s t : State} (h : SameTxSide s t) : SameTxSide (txCountdown s) (txCountdown t) :=
  { h with txRemaining := congrArg (· - 1) h.txRemaining }

theorem txEmit_sameTxSide {s t : State} (h : SameTxSide s t) : SameTxSide (txEmit s) (txEmit t) :=
  { h with
    txRDY := rfl, txE := rfl, txPhase := rfl
    sink := by rw [txEmit_sink, txEmit_sink, h.sink, h.dataOut] }

/-- A transmit pass reads its own side alone: states that agree there still do after it (R96). -/
theorem transmitPass_sameTxSide {s t : State} (h : SameTxSide s t) : SameTxSide (transmitPass s) (transmitPass t) := by
  unfold transmitPass
  rw [← h.txPhase, ← h.txRemaining]
  split
  · exact h
  · split
    · exact txEmit_sameTxSide (txCountdown_sameTxSide h)
    · exact txCountdown_sameTxSide h

/-- Settles O21: a pass reads its own side alone, so it leaves states that agree there in agreement. -/
theorem passesReadOnlyTheirOwnSide : Obligations.PassesReadOnlyTheirOwnSide := by
  refine ⟨?receive, ?transmit⟩
  case receive =>
    intro s t hrx henv
    simp only [Prod.mk.injEq] at hrx henv
    obtain ⟨hphase, hrem, hexh, hrdy, hdata, hoe, hdead⟩ := hrx
    obtain ⟨hsource, hpos, hanswers⟩ := henv
    have h := receivePass_sameRxSide ⟨hphase, hrem, hexh, hrdy, hdata, hoe, hdead, hsource, hpos, hanswers⟩
    simp only [h.rxPhase, h.rxRemaining, h.rxExhausted, h.rxRDY, h.dataIn, h.oe, h.sourcePos, h.pollAnswers]
  case transmit =>
    intro s t htx
    simp only [Prod.mk.injEq] at htx
    obtain ⟨hphase, hrem, hout, hrdy, hE, hsink⟩ := htx
    have h := transmitPass_sameTxSide ⟨hphase, hrem, hout, hrdy, hE, hsink⟩
    simp only [h.txPhase, h.txRemaining, h.txRDY, h.txE, h.sink]

/-- The transmit pass leaves the receive side alone. -/
theorem transmitPass_keeps_rxSide (s : State) : SameRxSide (transmitPass s) s := by
  constructor <;> simp

/-- The receive pass leaves the transmit side alone. -/
theorem receivePass_keeps_txSide (s : State) : SameTxSide (receivePass s) s := by
  constructor <;> simp

/-- Settles O20: neither pass touches what the other reads, and outside the two sides neither writes. -/
theorem passesCommute : Obligations.PassesCommute := by
  intro s
  refine eq_of_sameSides ?receive ?transmit ?rest
  case receive =>
    exact (receivePass_sameRxSide (transmitPass_keeps_rxSide s)).trans (transmitPass_keeps_rxSide (receivePass s)).symm
  case transmit =>
    exact (receivePass_keeps_txSide (transmitPass s)).trans (transmitPass_sameTxSide (receivePass_keeps_txSide s)).symm
  case rest => constructor <;> simp

end Sys2Proof.Machine
end

section
/-! SUPPORT. The step and what is pending: a step is the first pending event's operation, and no operation reads what is pending behind it
(R10, R43). -/
namespace Sys2Proof.Machine

/-- The passes of a TICK keep what is pending behind it and do not read it. -/
theorem passes_withPending (p : List Event) (s : State) :
    transmitPass (receivePass { s with pending := p }) = { transmitPass (receivePass s) with pending := p } := by
  have hrx : SameRxSide { s with pending := p } s := by constructor <;> rfl
  have htx : SameTxSide { s with pending := p } s := by constructor <;> rfl
  refine eq_of_sameSides ?receive ?transmit ?rest
  case receive =>
    have h := (transmitPass_keeps_rxSide _).trans
      ((receivePass_sameRxSide hrx).trans (transmitPass_keeps_rxSide (receivePass s)).symm)
    exact { h with }
  case transmit =>
    have h := transmitPass_sameTxSide
      ((receivePass_keeps_txSide _).trans (htx.trans (receivePass_keeps_txSide s).symm))
    exact { h with }
  case rest => constructor <;> simp

/-- An operation's effect neither reads nor changes what is pending behind it. -/
theorem liveEffect_withPending (i : Instr) (p : List Event) (s : State) :
    liveEffect i { s with pending := p } = { liveEffect i s with pending := p } := by
  cases i with
  | rdData | rdStatus | reset | now => rfl
  | wrData v => simp only [liveEffect]; split <;> rfl
  | wrControl v => simp only [liveEffect, controlWrite, controlWriteWith]; split <;> rfl
  | tick => exact passes_withPending p (advanceClock s)
  | setBaud b => simp only [liveEffect]; split <;> rfl
  | construct t b f n src => simp only [liveEffect]; split <;> rfl

theorem exec_construct (t b f n : Int) (src : InputSource) (s : State) :
    exec (.construct t b f n src) s = .next (liveEffect (.construct t b f n src) s) := by
  simp only [exec, execConstruct, liveEffect]
  cases checkParameters t b f n <;> rfl

/-- An operation runs by its effect, or the device is faulted and the operation is not CONSTRUCT (R32). -/
theorem exec_cases (i : Instr) (s : State) :
    exec i s = .next (liveEffect i s) ∨
      exec i s = .fault .deviceFaulted ∧ s.faulted = true ∧ ∀ t b f n src, i ≠ .construct t b f n src := by
  cases hs : s.faulted with
  | false => exact .inl (exec_of_live i hs)
  | true =>
    cases i with
    | construct t b f n src => exact .inl (exec_construct t b f n src s)
    | rdData | rdStatus | wrData _ | wrControl _ | tick | reset | setBaud _ | now =>
      exact .inr ⟨exec_of_faulted hs nofun, rfl, nofun⟩

/-- An operation that goes on does so whatever is pending behind it. -/
theorem exec_withPending_of_next {i : Instr} {s t : State} (p : List Event) (h : exec i s = .next t) :
    exec i { s with pending := p } = .next { t with pending := p } := by
  obtain ⟨rfl, hs | ⟨tb, b, f, n, src, rfl⟩⟩ := exec_eq_next h
  · rw [← liveEffect_withPending]
    exact exec_of_live i hs
  · rw [exec_construct, liveEffect_withPending]

/-- A step takes the first pending event and runs its operation on the state without it. -/
theorem step_of_pending {s : State} {e : Event} {rest : List Event} {i : Instr} (hp : s.pending = e :: rest)
    (hi : decodeEvent e = some i) : step s = exec i { s with pending := rest } := by
  simp only [step, fetchEvent, hp, hi]

/-- An event without a meaning is refused, on a live device (R53). -/
theorem step_of_undecoded {s : State} {e : Event} {rest : List Event} (hp : s.pending = e :: rest)
    (he : decodeEvent e = none) : step s = refuseEvent e s := by
  simp only [step, fetchEvent, hp, he]

theorem step_of_idle {s : State} (hp : s.pending = []) : step s = idleStep s := by
  simp only [step, fetchEvent, hp]

/-- Settles O4: the fetched event is the head of the queue. -/
theorem stepRunsFirstPendingEvent : Obligations.StepRunsFirstPendingEvent :=
  fun _ _ _ _ => step_of_pending

/-- Settles O5: with nothing pending the step is the identity on a live device, and a read word with data has no decoding. -/
theorem stepIdlesAndRefusesBadWords : Obligations.StepIdlesAndRefusesBadWords := by
  refine ⟨fun s hlive hp => ?idle, fun s w rest hlive hp hread hdata => ?refused⟩
  case idle => rw [step_of_idle hp, idleStep, whenLive_of_live hlive, id]
  case refused =>
    obtain ⟨a, wr, d, rfl⟩ := exists_assemble w
    obtain rfl : wr = false := (assemble_isWrite a wr d).symm.trans hread
    have hd : d ≠ 0#8 := fun h => hdata ((assemble_data a false d).trans h)
    rw [step_of_undecoded hp (decode_assemble_read_with_data a hd)]
    simp [refuseEvent, hlive]

theorem run_succ_of_next {M : Host.Core} {s t : M.State} (k : Nat) (h : M.step s = .next t) :
    M.run (k + 1) s = M.run k t := by
  simp only [Host.Core.run, h]

theorem run_succ_of_fault {M : Host.Core} {s : M.State} (k : Nat) {r : M.Fault} (h : M.step s = .fault r) :
    M.run (k + 1) s = .fault r := by
  simp only [Host.Core.run, h]

/-- Settles O6, by induction on the queue: a step is the head's operation, which keeps the rest of the queue pending. -/
theorem queuedEventsRunInOrder : Obligations.QueuedEventsRunInOrder := by
  intro is rest
  induction is with
  | nil => exact fun s => rfl
  | cons i is ih =>
    intro s
    let queue := is.map encodeEvent ++ rest
    have hstep : core.step { s with pending := encodeEvent i :: queue } = exec i { s with pending := queue } :=
      step_of_pending (s := { s with pending := encodeEvent i :: queue }) rfl (decodeEvent_encodeEvent i)
    rcases exec_cases i s with hnext | ⟨-, hs, hi⟩
    · rw [runInstrs, exec_withPending_of_next rest hnext]
      exact (run_succ_of_next _ (hstep.trans (exec_withPending_of_next queue hnext))).trans (ih (liveEffect i s))
    · rw [runInstrs, exec_of_faulted (s := { s with pending := rest }) hs hi]
      exact run_succ_of_fault _ (hstep.trans (exec_of_faulted hs hi))

end Sys2Proof.Machine
end


section
/-! SUPPORT. The receive side of a TICK: what each source answers (R37), the table of R73 as a relation, and a TICK as its two passes. -/
namespace Sys2Proof.Machine

/-! The poll, source by source. -/

theorem pollAnswer_of_redirect_byte {s : State} {bytes : List Byte} (h : s.inputSource = .redirect bytes)
    (hpos : s.sourcePos < bytes.length) : pollAnswer s = .data bytes[s.sourcePos] := by
  simp only [pollAnswer, h, List.getElem?_eq_getElem hpos]

theorem pollAnswer_of_redirect_end {s : State} {bytes : List Byte} (h : s.inputSource = .redirect bytes)
    (hpos : bytes.length ≤ s.sourcePos) : pollAnswer s = .endOfInput := by
  simp only [pollAnswer, h, List.getElem?_eq_none hpos]

theorem pollAnswer_of_interactive_byte {s : State} {b : Byte} {rest : List (Option Byte)} (h : s.inputSource = .interactive)
    (hanswers : s.pollAnswers = some b :: rest) : pollAnswer s = .data b := by
  simp only [pollAnswer, h, hanswers]

theorem pollAnswer_of_interactive_none {s : State} {rest : List (Option Byte)} (h : s.inputSource = .interactive)
    (hanswers : s.pollAnswers = none :: rest) : pollAnswer s = .noData := by
  simp only [pollAnswer, h, hanswers]

theorem pollAnswer_of_interactive_nil {s : State} (h : s.inputSource = .interactive)
    (hanswers : s.pollAnswers = []) : pollAnswer s = .noData := by
  simp only [pollAnswer, h, hanswers]

/-- Settles O19: past its end a redirect source has no byte left, and a terminal's next answer is a byte or NoData. -/
theorem pollAnswersFollowInputSource : Obligations.PollAnswersFollowInputSource := by
  refine ⟨fun s bytes hs => ⟨pollAnswer_of_redirect_byte hs, pollAnswer_of_redirect_end hs⟩, fun s hs =>
    ⟨fun b rest => pollAnswer_of_interactive_byte hs, fun rest => pollAnswer_of_interactive_none hs, ?neverEnds⟩⟩
  case neverEnds =>
    rcases hanswers : s.pollAnswers with _ | ⟨_ | b, rest⟩
    · simp [pollAnswer_of_interactive_nil hs hanswers]
    · simp [pollAnswer_of_interactive_none hs hanswers]
    · simp [pollAnswer_of_interactive_byte hs hanswers]

/-! The receive side of a latch (R77). -/

@[simp] theorem rxLatch_dataIn (b : Byte) (s : State) : (rxLatch b s).dataIn = b := by unfold rxLatch; split <;> rfl
@[simp] theorem rxLatch_rxRDY (b : Byte) (s : State) : (rxLatch b s).rxRDY = true := by unfold rxLatch; split <;> rfl

/-- The table of R73: the arm a receive pass takes from `s`, and the state it leaves. -/
inductive RxRow (s : State) : State → Prop
  | exhausted (hp : s.rxPhase = .idle) (hexh : s.rxExhausted = true) : RxRow s s
  | wake (hp : s.rxPhase = .idle) (hexh : s.rxExhausted = false) : RxRow s { s with rxPhase := .active }
  | deadTime (hp : s.rxPhase = .deadTime) : RxRow s (rxDeadTime s)
  | latch (hp : s.rxPhase = .active) (hfree : s.rxRDY = false) (b : Byte) (ha : pollAnswer s = .data b) :
      RxRow s (rxLatch b (afterPoll s))
  | overrun (hp : s.rxPhase = .active) (hfull : s.rxRDY = true) (b : Byte) (ha : pollAnswer s = .data b) :
      RxRow s (rxOverrun (afterPoll s))
  | endOfInput (hp : s.rxPhase = .active) (ha : pollAnswer s = .endOfInput) : RxRow s (rxExhaust (afterPoll s))
  | noData (hp : s.rxPhase = .active) (ha : pollAnswer s = .noData) : RxRow s (afterPoll s)

/-! The receive pass, row by row. -/

theorem receivePass_of_exhausted {s : State} (hp : s.rxPhase = .idle) (hexh : s.rxExhausted = true) : receivePass s = s := by
  simp only [receivePass, hp, rxIdle_of_exhausted hexh]

theorem receivePass_of_wake {s : State} (hp : s.rxPhase = .idle) (hexh : s.rxExhausted = false) :
    receivePass s = { s with rxPhase := .active } := by
  simp only [receivePass, hp, rxIdle_of_not_exhausted hexh]

theorem receivePass_of_deadTime {s : State} (hp : s.rxPhase = .deadTime) : receivePass s = rxDeadTime s := by
  simp only [receivePass, hp]

theorem receivePass_of_active {s : State} (hp : s.rxPhase = .active) :
    receivePass s = rxActive (pollAnswer s) (afterPoll s) := by
  simp only [receivePass, hp]

theorem receivePass_of_latch {s : State} (hp : s.rxPhase = .active) (hfree : s.rxRDY = false) {b : Byte}
    (ha : pollAnswer s = .data b) : receivePass s = rxLatch b (afterPoll s) := by
  rw [receivePass_of_active hp, ha, rxActive_data_of_free b (by rwa [afterPoll_rxRDY])]

theorem receivePass_of_overrun {s : State} (hp : s.rxPhase = .active) (hfull : s.rxRDY = true) {b : Byte}
    (ha : pollAnswer s = .data b) : receivePass s = rxOverrun (afterPoll s) := by
  rw [receivePass_of_active hp, ha, rxActive_data_of_full b (by rwa [afterPoll_rxRDY])]

theorem receivePass_of_endOfInput {s : State} (hp : s.rxPhase = .active) (ha : pollAnswer s = .endOfInput) :
    receivePass s = rxExhaust (afterPoll s) := by
  rw [receivePass_of_active hp, ha, rxActive_endOfInput]

theorem receivePass_of_noData {s : State} (hp : s.rxPhase = .active) (ha : pollAnswer s = .noData) :
    receivePass s = afterPoll s := by
  rw [receivePass_of_active hp, ha, rxActive_noData]

/-- A receive pass takes one row of the table. -/
theorem receivePass_row (s : State) : RxRow s (receivePass s) := by
  cases hp : s.rxPhase with
  | idle =>
    cases hexh : s.rxExhausted with
    | true => rw [receivePass_of_exhausted hp hexh]; exact .exhausted hp hexh
    | false => rw [receivePass_of_wake hp hexh]; exact .wake hp hexh
  | deadTime => rw [receivePass_of_deadTime hp]; exact .deadTime hp
  | active =>
    cases ha : pollAnswer s with
    | noData => rw [receivePass_of_noData hp ha]; exact .noData hp ha
    | endOfInput => rw [receivePass_of_endOfInput hp ha]; exact .endOfInput hp ha
    | data b =>
      cases hfull : s.rxRDY with
      | true => rw [receivePass_of_overrun hp hfull ha]; exact .overrun hp hfull b ha
      | false => rw [receivePass_of_latch hp hfull ha]; exact .latch hp hfull b ha

/-! A TICK is its two passes, each on its own side (R58, R44). -/

theorem tick_sameRxSide (s : State) : SameRxSide (liveEffect .tick s) (receivePass s) :=
  have hclock : SameRxSide (advanceClock s) s := by constructor <;> rfl
  (transmitPass_keeps_rxSide _).trans (receivePass_sameRxSide hclock)

theorem tick_sameTxSide (s : State) : SameTxSide (liveEffect .tick s) (transmitPass s) :=
  have hclock : SameTxSide (advanceClock s) s := by constructor <;> rfl
  transmitPass_sameTxSide ((receivePass_keeps_txSide _).trans hclock)

/-- Settles O15: on the receive side a TICK is the receive pass, and each clause is one row of its table. -/
theorem tickReceiveTransitions : Obligations.TickReceiveTransitions := by
  intro s hlive
  have h := tick_sameRxSide s
  refine ⟨_, exec_of_live .tick hlive, ?_⟩
  simp only [h.dataIn, h.rxRDY, h.oe, h.rxPhase, h.rxRemaining, h.rxExhausted]
  refine ⟨?wake, ?exhausted, ?deadTime, ?deadTimeEnds, ?latch, ?latchWithoutDeadTime, ?overrun, ?endOfInput, ?noData⟩
  case wake => intro hp hexh; simp [receivePass_of_wake hp hexh, hexh]
  case exhausted => intro hp hexh; simp [receivePass_of_exhausted hp hexh, hp, hexh]
  case deadTime =>
    intro hp hrem
    have hrunning : s.rxRemaining - 1 ≠ 0 := by omega
    simp [receivePass_of_deadTime hp, hrunning]
  case deadTimeEnds => intro hp hrem; simp [receivePass_of_deadTime hp, hrem]
  case latch =>
    intro b hp ha hfree hdead
    rw [receivePass_of_latch hp hfree ha, rxLatch_of_deadTicks b (by rwa [afterPoll_deadTicks])]
    simp
  case latchWithoutDeadTime =>
    intro b hp ha hfree hdead
    rw [receivePass_of_latch hp hfree ha, rxLatch_of_no_deadTicks b (by rwa [afterPoll_deadTicks])]
    simp [hp]
  case overrun => intro b hp ha hfull; simp [receivePass_of_overrun hp hfull ha, hp, hfull]
  case endOfInput => intro hp ha; simp [receivePass_of_endOfInput hp ha]
  case noData => intro hp ha; simp [receivePass_of_noData hp ha, hp]

/-- A receive pass that is not Active leaves the backend alone (R74). -/
theorem receivePass_input_of_not_active {s : State} (hp : s.rxPhase ≠ .active) :
    (receivePass s).sourcePos = s.sourcePos ∧ (receivePass s).pollAnswers = s.pollAnswers := by
  have hrow := receivePass_row s
  generalize receivePass s = t at hrow ⊢
  cases hrow with
  | exhausted | wake | deadTime => exact ⟨rfl, rfl⟩
  | latch hp' | overrun hp' | endOfInput hp' | noData hp' => exact absurd hp' hp

/-- An Active receive pass leaves the backend as one poll does (R74). -/
theorem receivePass_input_of_active {s : State} (hp : s.rxPhase = .active) :
    (receivePass s).sourcePos = (afterPoll s).sourcePos ∧ (receivePass s).pollAnswers = (afterPoll s).pollAnswers := by
  have hrow := receivePass_row s
  generalize receivePass s = t at hrow ⊢
  cases hrow with
  | exhausted hp' | wake hp' | deadTime hp' => cases hp.symm.trans hp'
  | latch | overrun | endOfInput | noData => simp

/-- Settles O18: off Active a TICK polls nothing, and in Active it takes what one poll of the source takes. -/
theorem tickPollsOnlyWhileActive : Obligations.TickPollsOnlyWhileActive := by
  intro s hlive
  have h := tick_sameRxSide s
  refine ⟨_, exec_of_live .tick hlive, ?_⟩
  rw [h.sourcePos, h.pollAnswers]
  refine ⟨receivePass_input_of_not_active, fun hp hsource => ?interactive, fun bytes hp hsource => ?redirect⟩
  all_goals obtain ⟨hpos, hanswers⟩ := receivePass_input_of_active hp; rw [hpos, hanswers]
  case interactive => rw [afterPoll_of_interactive hsource]; exact ⟨rfl, rfl⟩
  case redirect =>
    rcases Nat.lt_or_ge s.sourcePos bytes.length with hmore | hend
    · rw [afterPoll_of_redirect_byte hsource hmore, if_pos hmore]; exact ⟨rfl, rfl⟩
    · rw [afterPoll_of_redirect_end hsource hend, if_neg (by omega)]; exact ⟨rfl, rfl⟩

/-- Settles O17, field by field. -/
theorem tickCountsAndLeavesTheRest : Obligations.TickCountsAndLeavesTheRest := by
  intro s hlive
  refine ⟨_, exec_of_live .tick hlive, ?_⟩
  apply State.ext <;> simp [liveEffect]

end Sys2Proof.Machine
end


section
/-! SUPPORT. The control write by its bit 4 (R69), and the writers of RxRDY and OE (R22, R34, R78, R102). -/
namespace Sys2Proof.Machine

/-- Masked with bit 4, a byte is that bit alone. -/
theorem and_bitFour (v : Byte) : v &&& 0x10#8 = if v.getLsbD 4 = true then 0x10#8 else 0x00#8 :=
  BitVec.and_twoPow v 4

theorem getLsbD_four_of_and {v : Byte} (h : v &&& 0x10#8 = 0x10#8) : v.getLsbD 4 = true := by
  cases hbit : v.getLsbD 4 with
  | true => rfl
  | false =>
    rw [and_bitFour, hbit] at h
    exact absurd h (by decide)

theorem getLsbD_four_of_and_zero {v : Byte} (h : v &&& 0x10#8 = 0x00#8) : v.getLsbD 4 = false := by
  cases hbit : v.getLsbD 4 with
  | false => rfl
  | true =>
    rw [and_bitFour, hbit] at h
    exact absurd h (by decide)

theorem controlWrite_of_bit {v : Byte} (h : v.getLsbD 4 = true) (s : State) : controlWrite v s = clearErrors s :=
  if_pos h

theorem controlWrite_of_no_bit {v : Byte} (h : v.getLsbD 4 = false) (s : State) : controlWrite v s = s :=
  if_neg (Bool.eq_false_iff.mp h)

/-- Settles O12: the error reset is requested by bit 4 and by no other. -/
theorem wrControlBitFourResetsErrors : Obligations.WrControlBitFourResetsErrors := by
  refine fun v s hlive => ⟨fun hbit => ?set, fun hbit => ?clear⟩ <;> rw [exec_of_live _ hlive, liveEffect]
  case set => rw [controlWrite_of_bit (getLsbD_four_of_and hbit)]; rfl
  case clear => rw [controlWrite_of_no_bit (getLsbD_four_of_and_zero hbit)]

@[simp] theorem controlWrite_rxRDY (d : Byte) (s : State) : (controlWrite d s).rxRDY = s.rxRDY := by
  rw [controlWrite_frame]

/-- OE survives a control write without bit 4 (R69, R78). -/
theorem controlWrite_oe (v : Byte) (s : State) : (controlWrite v s).oe = (s.oe && !v.getLsbD 4) := by
  cases hbit : v.getLsbD 4 with
  | true => simp [controlWrite_of_bit hbit]
  | false => simp [controlWrite_of_no_bit hbit]

/-! What a receive pass can do to RxRDY and OE. -/

/-- A receive pass raises RxRDY in a latch, and keeps it otherwise (R77). -/
theorem receivePass_rxRDY (s : State) :
    (receivePass s).rxRDY = s.rxRDY ∨
      s.rxPhase = .active ∧ pollAnswer s = .data (receivePass s).dataIn ∧ (receivePass s).rxRDY = true := by
  have hrow := receivePass_row s
  generalize receivePass s = t at hrow ⊢
  cases hrow with
  | exhausted | wake | deadTime => exact .inl rfl
  | latch hp hfree b ha => exact .inr ⟨hp, by rw [ha, rxLatch_dataIn], rxLatch_rxRDY b _⟩
  | overrun | endOfInput | noData => exact .inl (by simp)

/-- A receive pass sets OE in an overrun, and keeps it otherwise (R78). -/
theorem receivePass_oe (s : State) :
    (receivePass s).oe = s.oe ∨
      (receivePass s).oe = true ∧ s.rxPhase = .active ∧ s.rxRDY = true ∧ (∃ b, pollAnswer s = .data b) ∧
        (receivePass s).dataIn = s.dataIn := by
  have hrow := receivePass_row s
  generalize receivePass s = t at hrow ⊢
  cases hrow with
  | exhausted | wake | deadTime => exact .inl rfl
  | overrun hp hfull b ha => exact .inr ⟨rfl, hp, hfull, ⟨b, ha⟩, afterPoll_dataIn s⟩
  | latch | endOfInput | noData => exact .inl (by simp)

/-! The writers of RxRDY and OE among the operations. -/

/-- All that an operation can do to RxRDY: a TICK may latch, and RD_DATA, RESET and CONSTRUCT write it. -/
theorem liveEffect_rxRDY (i : Instr) (s : State) :
    (liveEffect i s).rxRDY = s.rxRDY ∨
      (i = .tick ∧ s.rxPhase = .active ∧ pollAnswer s = .data (liveEffect i s).dataIn ∧ (liveEffect i s).rxRDY = true) ∨
      ((i = .rdData ∨ i = .reset ∨ ∃ t b f n src, i = .construct t b f n src) ∧ (liveEffect i s).rxRDY = false) := by
  cases i with
  | rdStatus | now => exact .inl rfl
  | wrData v => exact .inl (by rw [liveEffect_wrData_frame])
  | wrControl v => exact .inl (controlWrite_rxRDY v s)
  | setBaud b => refine .inl ?_; simp only [liveEffect]; split <;> rfl
  | tick =>
    have h := tick_sameRxSide s
    rw [h.rxRDY, h.dataIn]
    exact (receivePass_rxRDY s).imp_right fun hlatch => .inl ⟨rfl, hlatch⟩
  | rdData => exact .inr (.inr ⟨.inl rfl, rfl⟩)
  | reset => exact .inr (.inr ⟨.inr (.inl rfl), rfl⟩)
  | construct t b f n src =>
    simp only [liveEffect]
    split
    · exact .inl rfl
    · exact .inr (.inr ⟨.inr (.inr ⟨_, _, _, _, _, rfl⟩), rfl⟩)

/-- All that an operation can do to OE: a control write with bit 4 clears it, a TICK may overrun, and RESET and CONSTRUCT set it. -/
theorem liveEffect_oe (i : Instr) (s : State) :
    (liveEffect i s).oe = s.oe ∨
      (∃ v : Byte, i = .wrControl v ∧ v &&& 0x10#8 = 0x10#8 ∧ (liveEffect i s).oe = false) ∨
      (((i = .tick ∧ s.rxPhase = .active ∧ s.rxRDY = true ∧ (∃ b, pollAnswer s = .data b) ∧
          (liveEffect i s).dataIn = s.dataIn) ∨
        i = .reset ∨ ∃ t b f n src, i = .construct t b f n src) ∧ (liveEffect i s).oe = true) := by
  cases i with
  | rdData | rdStatus | now => exact .inl rfl
  | wrData v => exact .inl (by rw [liveEffect_wrData_frame])
  | wrControl v =>
    rw [liveEffect, controlWrite_oe]
    cases hbit : v.getLsbD 4 with
    | true => exact .inr (.inl ⟨v, rfl, by rw [and_bitFour, if_pos hbit], Bool.and_false _⟩)
    | false => exact .inl (Bool.and_true _)
  | setBaud b => refine .inl ?_; simp only [liveEffect]; split <;> rfl
  | tick =>
    have h := tick_sameRxSide s
    rw [h.oe, h.dataIn]
    exact (receivePass_oe s).imp_right fun ⟨hset, hoverrun⟩ => .inr ⟨.inl ⟨rfl, hoverrun⟩, hset⟩
  | reset => exact .inr (.inr ⟨.inr (.inl rfl), rfl⟩)
  | construct t b f n src =>
    simp only [liveEffect]
    split
    · exact .inl rfl
    · exact .inr (.inr ⟨.inr (.inr ⟨_, _, _, _, _, rfl⟩), rfl⟩)

/-- A TICK that finds a byte offered and DataIn free latches it (R77). -/
theorem tick_of_latch {s : State} (hp : s.rxPhase = .active) (hfree : s.rxRDY = false) {b : Byte}
    (ha : pollAnswer s = .data b) : SameRxSide (liveEffect .tick s) (rxLatch b (afterPoll s)) :=
  receivePass_of_latch hp hfree ha ▸ tick_sameRxSide s

/-- A TICK that finds a byte offered and DataIn full loses it (R78). -/
theorem tick_of_overrun {s : State} (hp : s.rxPhase = .active) (hfull : s.rxRDY = true) {b : Byte}
    (ha : pollAnswer s = .data b) : SameRxSide (liveEffect .tick s) (rxOverrun (afterPoll s)) :=
  receivePass_of_overrun hp hfull ha ▸ tick_sameRxSide s

/-- Legal operands pass the checks of CONSTRUCT (R120). -/
theorem liveEffect_construct_of_legal {t b f n : Int} (src : InputSource) (s : State) (ht : 0 < t) (hb : 0 < b) (hf : 0 < f)
    (hn : 0 ≤ n) : liveEffect (.construct t b f n src) s = bringUp t.toNat b.toNat f.toNat n.toNat src s := by
  rw [liveEffect, checkParameters_of_legal ht hb hf hn]

/-- Settles O40: the line is the flag, and each edge belongs to one of RxRDY's writers. -/
theorem rxReadyLineEdges : Obligations.RxReadyLineEdges := by
  refine ⟨fun s => rfl, ?latch, fun s hlive => ⟨_, exec_of_live .rdData hlive, rfl⟩,
    fun s hlive => ⟨_, exec_of_live .reset hlive, rfl⟩, ?construct, ?edges⟩
  case latch =>
    intro b s hlive hp hfree ha
    have h := tick_of_latch hp hfree ha
    exact ⟨_, exec_of_live .tick hlive, by rw [rxrdyOut, h.rxRDY, rxLatch_rxRDY], by rw [h.dataIn, rxLatch_dataIn]⟩
  case construct =>
    intro tb b f n src s hwf
    simp only [Instr.wf, Bool.and_eq_true, decide_eq_true_eq] at hwf
    obtain ⟨⟨⟨ht, hb⟩, hf⟩, hn⟩ := hwf
    exact ⟨_, exec_construct tb b f n src s, by rw [liveEffect_construct_of_legal src s ht hb hf hn]; rfl⟩
  case edges =>
    intro i s t h
    obtain ⟨rfl, -⟩ := exec_eq_next h
    simp only [rxrdyOut]
    refine ⟨fun hlow hhigh => ?rises, fun hhigh hlow => ?falls⟩
    all_goals rcases liveEffect_rxRDY i s with hkept | ⟨rfl, hp, ha, hset⟩ | ⟨hwriter, hclear⟩
    case rises.inl => simp [hkept, hlow] at hhigh
    case rises.inr.inl => exact ⟨rfl, hp, ha⟩
    case rises.inr.inr => simp [hclear] at hhigh
    case falls.inl => simp [hkept, hhigh] at hlow
    case falls.inr.inl => simp [hset] at hlow
    case falls.inr.inr => exact hwriter

/-- Settles O41: each edge of OE belongs to one of its writers. -/
theorem overrunFlagIsSticky : Obligations.OverrunFlagIsSticky := by
  intro i s t h
  obtain ⟨rfl, -⟩ := exec_eq_next h
  refine ⟨fun hset hclear => ?cleared, fun hclear hset => ?set⟩
  all_goals rcases liveEffect_oe i s with hkept | ⟨v, hv, hbit, hoe⟩ | ⟨hwriter, hoe⟩
  case cleared.inl => simp [hkept, hset] at hclear
  case cleared.inr.inl => exact ⟨v, hv, hbit⟩
  case cleared.inr.inr => simp [hoe] at hclear
  case set.inl => simp [hkept, hclear] at hset
  case set.inr.inl => simp [hoe] at hset
  case set.inr.inr => exact hwriter

/-- A TICK leaves the host's latest answer (R58). -/
@[simp] theorem liveEffect_tick_result (s : State) : (liveEffect .tick s).result = s.result := by
  simp [liveEffect]

/-- Settles O49: RD_DATA answers the DataIn it finds, and the latch happens on either side of it. -/
theorem readBeforeOrAfterLatchDiffer : Obligations.ReadBeforeOrAfterLatchDiffer := by
  intro b s hlive hp hfree ha
  refine ⟨⟨liveEffect .tick (liveEffect .rdData s), ?_, ?_⟩, ⟨liveEffect .rdData (liveEffect .tick s), ?_, ?_⟩⟩
  · exact (runInstrs_of_live hlive rfl).1
  · have h := tick_of_latch (s := liveEffect .rdData s) hp rfl ha
    exact ⟨liveEffect_tick_result _, by rw [h.dataIn, rxLatch_dataIn], by rw [h.rxRDY, rxLatch_rxRDY]⟩
  · exact (runInstrs_of_live hlive rfl).1
  · have hdata : (liveEffect .tick s).dataIn = b := by rw [(tick_of_latch hp hfree ha).dataIn, rxLatch_dataIn]
    exact ⟨congrArg Result.byte hdata, hdata, rfl⟩

end Sys2Proof.Machine
end


section
/-! SUPPORT. The invariant of R33 with R26, R31 and R13: each of its parts is kept by each operation's effect, and so by every step. -/
namespace Sys2Proof.Machine

/-! The transmit side, (I1) and (I2). -/

theorem txInv_of_sameTxSide {s t : State} (h : SameTxSide s t) (hinv : t.TxInv) : s.TxInv := by
  unfold State.TxInv
  rwa [h.txRDY, h.txE, h.txPhase, h.txRemaining]

/-- While Sending the countdown runs or is at its last TICK (I2). -/
theorem countdown_of_sending {s : State} (hinv : s.TxInv) (hp : s.txPhase = .sending) :
    1 < s.txRemaining ∨ s.txRemaining = 1 := by
  obtain ⟨-, -, hsending, -⟩ := hinv
  have := hsending hp
  omega

theorem txRemaining_of_idle {s : State} (hinv : s.TxInv) (hp : s.txPhase = .idle) : s.txRemaining = 0 := by
  obtain ⟨-, -, -, hidle⟩ := hinv
  exact hidle hp

theorem transmitPass_txInv {s : State} (hinv : s.TxInv) : (transmitPass s).TxInv := by
  obtain ⟨hRdy, hE, -, -⟩ := id hinv
  cases hp : s.txPhase with
  | idle => rwa [transmitPass_of_idle hp]
  | sending =>
    rcases countdown_of_sending hinv hp with hrun | hlast
    · rw [transmitPass_of_countdown hp hrun]
      have hrunning : 1 ≤ s.txRemaining - 1 := by omega
      simp [State.TxInv, hRdy, hE, hp, hrunning]
    · rw [transmitPass_of_last hp hlast]
      simp [State.TxInv, hlast]

/-- The countdown a frame starts with is positive (R62). -/
theorem txDelay_pos {s : State} (hinv : s.ConfigInv) : 0 < txDelay s := by
  obtain ⟨-, -, hframe, hhalf⟩ := hinv
  have hhalfPos : 0 < s.ticksPerHalfBit := by rw [hhalf]; exact Nat.le_max_left _ _
  exact Nat.mul_pos (Nat.mul_pos hhalfPos Nat.two_pos) hframe

theorem liveEffect_txInv (i : Instr) {s : State} (hconfig : s.ConfigInv) (hinv : s.TxInv) : (liveEffect i s).TxInv := by
  cases i with
  | rdData | rdStatus | now => exact hinv
  | wrControl v => rw [liveEffect, controlWrite_frame]; exact hinv
  | setBaud b => simp only [liveEffect]; split <;> exact hinv
  | tick => exact txInv_of_sameTxSide (tick_sameTxSide s) (transmitPass_txInv hinv)
  | wrData v =>
    cases hready : s.txRDY with
    | true =>
      rw [liveEffect_wrData_of_ready v hready]
      exact ⟨rfl, rfl, fun _ => txDelay_pos hconfig, nofun⟩
    | false => rw [liveEffect_wrData_of_busy v hready]; exact hinv
  | reset => exact ⟨rfl, rfl, nofun, fun _ => rfl⟩
  | construct t b f n src =>
    simp only [liveEffect]
    split
    · exact hinv
    · exact ⟨rfl, rfl, nofun, fun _ => rfl⟩

/-! The receive side, (I3), (I4) and R26. -/

theorem rxInv_of_sameRxSide {s t : State} (h : SameRxSide s t) (hinv : t.RxInv) : s.RxInv := by
  unfold State.RxInv
  rwa [h.rxPhase, h.rxRemaining, h.rxExhausted]

/-- The dead-time arm ends at zero and nowhere else (R76). -/
theorem rxDeadTime_rxInv {s : State} (hexh : s.rxExhausted = false) : (rxDeadTime s).RxInv := by
  simp only [State.RxInv, rxDeadTime_rxPhase, rxDeadTime_rxRemaining, rxDeadTime_rxExhausted, hexh]
  split
  · simp_all
  · exact ⟨fun _ => by omega, fun h => absurd rfl h, nofun⟩

/-- A latch starts dead time, or finds DeadTicks = 0 and stays Active (R77). -/
theorem rxLatch_rxInv {s : State} (b : Byte) (hp : s.rxPhase = .active) (hrem : s.rxRemaining = 0)
    (hexh : s.rxExhausted = false) : (rxLatch b s).RxInv := by
  rcases Nat.eq_zero_or_pos s.deadTicks with hdead | hdead
  · rw [rxLatch_of_no_deadTicks b hdead]
    simp [State.RxInv, hp, hrem, hexh]
  · rw [rxLatch_of_deadTicks b hdead]
    exact ⟨fun _ => hdead, fun h => absurd rfl h, by simp [hexh]⟩

theorem receivePass_rxInv {s : State} (hinv : s.RxInv) : (receivePass s).RxInv := by
  obtain ⟨-, hrem, hidle⟩ := id hinv
  have hexh (hp : s.rxPhase ≠ .idle) : s.rxExhausted = false := by
    cases h : s.rxExhausted with
    | false => rfl
    | true => exact absurd (hidle h) hp
  have hrow := receivePass_row s
  generalize receivePass s = t at hrow ⊢
  cases hrow with
  | exhausted => exact hinv
  | wake hp hexh => exact ⟨nofun, fun _ => hrem (by simp [hp]), by simp [hexh]⟩
  | deadTime hp => exact rxDeadTime_rxInv (hexh (by simp [hp]))
  | latch hp _ b _ =>
    exact rxLatch_rxInv b (by simp [hp]) (by simp [hp, hrem]) (by simp [hp, hexh])
  | overrun hp => exact ⟨by simp [hp], by simp [hp, hrem], by simp [hp, hexh]⟩
  | endOfInput hp => exact ⟨by simp, by simp [hp, hrem], by simp⟩
  | noData hp => exact ⟨by simp [hp], by simp [hp, hrem], by simp [hp, hexh]⟩

theorem liveEffect_rxInv (i : Instr) {s : State} (hinv : s.RxInv) : (liveEffect i s).RxInv := by
  cases i with
  | rdData | rdStatus | now => exact hinv
  | wrData v => rw [liveEffect_wrData_frame]; exact hinv
  | wrControl v => rw [liveEffect, controlWrite_frame]; exact hinv
  | setBaud b => simp only [liveEffect]; split <;> exact hinv
  | tick => exact rxInv_of_sameRxSide (tick_sameRxSide s) (receivePass_rxInv hinv)
  | reset => exact ⟨nofun, fun _ => rfl, fun _ => rfl⟩
  | construct t b f n src =>
    simp only [liveEffect]
    split
    · exact hinv
    · exact ⟨nofun, fun _ => rfl, fun _ => rfl⟩

/-! The constant bits, (I5), the configuration (R31) and the fault record (R13). -/

theorem liveEffect_constantBits (i : Instr) {s : State} (hinv : s.ConstantBits) : (liveEffect i s).ConstantBits := by
  obtain ⟨hdsr, hsyndet, -, -⟩ := id hinv
  cases i with
  | rdData | rdStatus | now => exact hinv
  | wrData v => rw [liveEffect_wrData_frame]; exact hinv
  | wrControl v =>
    rw [liveEffect]
    rcases controlWrite_cases v s with h | h <;> rw [h]
    · exact ⟨hdsr, hsyndet, rfl, rfl⟩
    · exact hinv
  | setBaud b => simp only [liveEffect]; split <;> exact hinv
  | tick => simpa [State.ConstantBits, liveEffect] using hinv
  | reset => exact ⟨rfl, rfl, rfl, rfl⟩
  | construct t b f n src =>
    simp only [liveEffect]
    split
    · exact hinv
    · exact ⟨rfl, rfl, rfl, rfl⟩

theorem pos_of_checkBaud {b : Int} (h : checkBaud b = none) : 0 < b := by
  rcases Int.lt_or_le 0 b with hb | hb
  · exact hb
  · rw [checkBaud_of_not_pos hb] at h
    cases h

/-- Operands that pass the checks are in their ranges (R6, R120). -/
theorem legal_of_checkParameters {t b f n : Int} (h : checkParameters t b f n = none) : 0 < t ∧ 0 < b ∧ 0 < f ∧ 0 ≤ n := by
  simp only [checkParameters] at h
  repeat' (split at h; · cases h)
  omega

theorem liveEffect_configInv (i : Instr) {s : State} (hinv : s.ConfigInv) : (liveEffect i s).ConfigInv := by
  obtain ⟨htime, -, hframe, -⟩ := id hinv
  cases i with
  | rdData | rdStatus | now | reset => exact hinv
  | wrData v => rw [liveEffect_wrData_frame]; exact hinv
  | wrControl v => rw [liveEffect, controlWrite_frame]; exact hinv
  | tick => simpa [State.ConfigInv, liveEffect] using hinv
  | setBaud b =>
    simp only [liveEffect]
    split
    · exact hinv
    case h_2 hcheck =>
      have hb := pos_of_checkBaud hcheck
      exact ⟨htime, by simpa using hb, hframe, rfl⟩
  | construct t b f n src =>
    simp only [liveEffect]
    split
    · exact hinv
    case h_2 hcheck =>
      obtain ⟨ht, hb, hf, -⟩ := legal_of_checkParameters hcheck
      exact ⟨by simpa using ht, by simpa using hb, by simpa using hf, rfl⟩

theorem liveEffect_faultInv (i : Instr) {s : State} (hinv : s.FaultInv) : (liveEffect i s).FaultInv := by
  cases i with
  | rdData | rdStatus | now | reset => exact hinv
  | wrData v => rw [liveEffect_wrData_frame]; exact hinv
  | wrControl v => rw [liveEffect, controlWrite_frame]; exact hinv
  | tick => simpa [State.FaultInv, liveEffect] using hinv
  | setBaud b =>
    simp only [liveEffect]
    split
    · rfl
    · exact hinv
  | construct t b f n src => simp only [liveEffect]; split <;> rfl

/-- Every operation's effect keeps the invariant. -/
theorem liveEffect_inv (i : Instr) {s : State} (hinv : s.Inv) : (liveEffect i s).Inv := by
  obtain ⟨htx, hrx, hbits, hconfig, hfault⟩ := hinv
  exact ⟨liveEffect_txInv i hconfig htx, liveEffect_rxInv i hrx, liveEffect_constantBits i hbits,
    liveEffect_configInv i hconfig, liveEffect_faultInv i hfault⟩

/-- All that a step can answer with a next state: it idles, or it is the effect of the operation at the head of the queue. -/
theorem step_eq_next {s t : State} (h : step s = .next t) :
    t = s ∨ ∃ e rest i, s.pending = e :: rest ∧ decodeEvent e = some i ∧ t = liveEffect i { s with pending := rest } := by
  rcases hp : s.pending with _ | ⟨e, rest⟩
  · rw [step_of_idle hp] at h
    exact .inl (whenLive_eq_next h).2
  · cases hi : decodeEvent e with
    | none =>
      rw [step_of_undecoded hp hi, refuseEvent] at h
      split at h <;> cases h
    | some i =>
      rw [step_of_pending hp hi] at h
      exact .inr ⟨e, rest, i, rfl, hi, (exec_eq_next h).1⟩

/-- Settles O37: the invariant does not speak of what is pending, and each operation's effect keeps it. -/
theorem everyStepKeepsTheInvariant : Obligations.EveryStepKeepsTheInvariant := by
  intro s t hinv hstep
  rcases step_eq_next hstep with rfl | ⟨e, rest, i, -, -, rfl⟩
  · exact hinv
  · exact liveEffect_inv (s := { s with pending := rest }) i hinv

/-- Settles O36, on the one state. -/
theorem resetMeetsTheInvariant : Obligations.ResetMeetsTheInvariant := by
  unfold Obligations.ResetMeetsTheInvariant
  decide

/-- Three flags are left free by (I1) and (I5): TxRDY, which TxE equals, RxRDY and OE. -/
theorem composed_of_three_flags : ∀ oe ready rxRDY : Bool,
    BitVec.ofBool false ++ BitVec.ofBool false ++ BitVec.ofBool false ++ BitVec.ofBool oe ++
      BitVec.ofBool false ++ BitVec.ofBool ready ++ BitVec.ofBool rxRDY ++ BitVec.ofBool ready ∈
        [0x00#8, 0x02#8, 0x05#8, 0x07#8, 0x10#8, 0x12#8, 0x15#8, 0x17#8] := by
  decide

/-- Settles O38: the invariant leaves three flags free. -/
theorem onlyEightStatusBytesOccur : Obligations.OnlyEightStatusBytesOccur := by
  rintro s ⟨⟨hRdy, hE, -⟩, -, ⟨hdsr, hsyndet, hfe, hpe⟩, -⟩
  have hflags : s.txE = s.txRDY := hE.trans hRdy.symm
  rw [statusByte, hdsr, hsyndet, hfe, hpe, hflags]
  exact composed_of_three_flags s.oe s.txRDY s.rxRDY

end Sys2Proof.Machine
end


section
/-! SUPPORT. The host events by their effects: baud changes, construction, RESET and the fault (R56 to R62, R106 to R108, R120 to R123). -/
namespace Sys2Proof.Machine

theorem liveEffect_setBaud_of_not_pos {b : Int} (hb : b ≤ 0) (s : State) :
    liveEffect (.setBaud b) s = raiseConfigError ⟨.baudNotPositive, b⟩ s := by
  rw [liveEffect, checkBaud_of_not_pos hb]

theorem liveEffect_construct_of_rejected {t b f n : Int} (src : InputSource) (s : State) {info : FaultInfo}
    (h : checkParameters t b f n = some info) : liveEffect (.construct t b f n src) s = raiseConfigError info s := by
  rw [liveEffect, h]

/-- Settles O26: a positive rate passes the check and takes effect. -/
theorem setBaudWritesRateAndHalfBit : Obligations.SetBaudWritesRateAndHalfBit := by
  intro b s hlive hb
  rw [exec_of_live _ hlive, liveEffect_setBaud_of_pos (Int.natCast_pos.mpr hb)]
  rfl

/-- Settles O33: RESET is its effect on a live device. -/
theorem resetLeavesPowerOnValues : Obligations.ResetLeavesPowerOnValues :=
  fun _ hlive => exec_of_live .reset hlive

/-- Legal operands, given as naturals, bring the device up with those values (R120). -/
theorem liveEffect_construct_of_nat {t b f : Nat} (n : Nat) (src : InputSource) (s : State) (ht : 0 < t) (hb : 0 < b)
    (hf : 0 < f) : liveEffect (.construct t b f n src) s = bringUp t b f n src s :=
  liveEffect_construct_of_legal src s (Int.natCast_pos.mpr ht) (Int.natCast_pos.mpr hb) (Int.natCast_pos.mpr hf)
    (Int.natCast_nonneg n)

/-- Settles O34: legal parameters pass the four checks, and the bring-up is written out. -/
theorem constructBringsTheDeviceUp : Obligations.ConstructBringsTheDeviceUp := by
  intro t b f n src s ht hb hf
  rw [exec_construct, liveEffect_construct_of_nat n src s ht hb hf]
  rfl

/-- Settles O35: of what CONSTRUCT writes, RESET writes the part that is not configuration, and the configuration it is given is the one in
force; the invariant has the derived TicksPerHalfBit and the empty fault record in force, too. -/
theorem resetIsConstructionWithSameConfiguration : Obligations.ResetIsConstructionWithSameConfiguration := by
  intro s hlive hinv
  obtain ⟨-, -, -, ⟨htime, hbaud, hframe, hhalf⟩, hfault⟩ := hinv
  have hinfo : s.faultInfo = none := 
    Option.isNone_iff_eq_none.mp (Option.isSome_eq_false_iff.mp (hfault.trans hlive))
  refine ⟨_, _, exec_of_live .reset hlive, exec_construct _ _ _ _ _ s, ?_⟩
  rw [liveEffect_construct_of_nat _ _ s htime hbaud hframe]
  apply State.ext
  case faulted => exact hlive.symm
  case faultInfo => exact hinfo.symm
  case ticksPerHalfBit => exact hhalf.symm
  all_goals rfl

/-- The four checks of CONSTRUCT in their order (R120). -/
theorem checkParameters_eq_some {t b f n : Int} {info : FaultInfo}
    (h : (t ≤ 0 ∧ info = ⟨.timeBaseNotPositive, t⟩) ∨ (0 < t ∧ b ≤ 0 ∧ info = ⟨.baudNotPositive, b⟩) ∨
      (0 < t ∧ 0 < b ∧ f ≤ 0 ∧ info = ⟨.bitsPerFrameNotPositive, f⟩) ∨
      (0 < t ∧ 0 < b ∧ 0 < f ∧ n < 0 ∧ info = ⟨.deadTicksNegative, n⟩)) : checkParameters t b f n = some info := by
  unfold checkParameters
  rcases h with ⟨ht, rfl⟩ | ⟨ht, hb, rfl⟩ | ⟨ht, hb, hf, rfl⟩ | ⟨ht, hb, hf, hn, rfl⟩
  · rw [if_pos ht]
  · rw [if_neg (by omega), if_pos hb]
  · rw [if_neg (by omega), if_neg (by omega), if_pos hf]
  · rw [if_neg (by omega), if_neg (by omega), if_neg (by omega), if_pos hn]

/-- Settles O32: the checks report the first that fails, and only the fault record is written. -/
theorem constructReportsFirstFailingCheck : Obligations.ConstructReportsFirstFailingCheck := by
  intro t b f n src s info h
  rw [exec_construct, liveEffect_construct_of_rejected src s (checkParameters_eq_some h)]
  rfl

/-- A CONSTRUCT leaves the device faulted exactly when a parameter is rejected. -/
theorem liveEffect_construct_faulted (t b f n : Int) (src : InputSource) (s : State) :
    (liveEffect (.construct t b f n src) s).faulted = (checkParameters t b f n).isSome := by
  rw [liveEffect]
  cases checkParameters t b f n <;> rfl

/-- The checks of CONSTRUCT pass exactly within the ranges of R6. -/
theorem checkParameters_eq_none_iff (t b f n : Int) (src : InputSource) :
    checkParameters t b f n = none ↔ (Instr.construct t b f n src).wf = true := by
  have hwf : (Instr.construct t b f n src).wf = true ↔ 0 < t ∧ 0 < b ∧ 0 < f ∧ 0 ≤ n := by simp [Instr.wf, and_assoc]
  rw [hwf]
  exact ⟨legal_of_checkParameters, fun ⟨ht, hb, hf, hn⟩ => checkParameters_of_legal ht hb hf hn⟩

/-- On a live device an operation's effect leaves the fault exactly for illegal operands (R106). -/
theorem liveEffect_faulted_iff (i : Instr) {s : State} (hlive : s.faulted = false) :
    (liveEffect i s).faulted = true ↔ i.wf = false := by
  cases i with
  | rdData | rdStatus | wrData _ | wrControl _ | tick | reset | now =>
    exact iff_of_false (Bool.eq_false_iff.mp (liveEffect_live rfl hlive)) (by simp [Instr.wf])
  | setBaud b =>
    rcases Int.lt_or_le 0 b with hb | hb
    · rw [liveEffect_setBaud_of_pos hb, setRate_faulted, hlive]
      simp [Instr.wf, hb]
    · rw [liveEffect_setBaud_of_not_pos hb]
      simp [Instr.wf, hb]
  | construct t b f n src =>
    rw [liveEffect_construct_faulted, Option.isSome_iff_ne_none, ne_eq, checkParameters_eq_none_iff t b f n src,
      Bool.not_eq_true]

/-- Settles O31: on a live device an operation is its effect, which faults exactly for an illegal operand. -/
theorem onlyIllegalOperandsFault : Obligations.OnlyIllegalOperandsFault :=
  fun i _ hlive => ⟨_, exec_of_live i hlive, liveEffect_faulted_iff i hlive⟩

/-- Settles O28: the rejected rate leaves the device faulted, and no operation but CONSTRUCT runs on a faulted device. -/
theorem setBaudNotPositiveStopsTheDevice : Obligations.SetBaudNotPositiveStopsTheDevice := by
  intro b s hlive hb
  refine ⟨_, exec_of_live _ hlive, by rw [liveEffect_setBaud_of_not_pos hb]; rfl, fun i is hi => ?_⟩
  rw [liveEffect_setBaud_of_not_pos hb, runInstrs, exec_of_faulted rfl hi]

/-- An event stands for CONSTRUCT only if it is CONSTRUCT: that operation has no bus word (R52). -/
theorem eq_construct_of_decodeEvent {e : Event} {t b f n : Int} {src : InputSource}
    (h : decodeEvent e = some (.construct t b f n src)) : e = .construct t b f n src :=
  (encodeEvent_of_decodeEvent h).symm

/-- Settles O29: whatever the head of the queue is, the step asks for a live device or for CONSTRUCT. -/
theorem faultedDeviceHasNoStep : Obligations.FaultedDeviceHasNoStep := by
  intro s hs
  refine ⟨fun i hi => exec_of_faulted hs hi, fun hhead => ?step⟩
  case step =>
    rcases hp : s.pending with _ | ⟨e, rest⟩
    · rw [step_of_idle hp, idleStep, whenLive_of_faulted hs]
    · cases hi : decodeEvent e with
      | none => rw [step_of_undecoded hp hi, refuseEvent, if_pos hs]
      | some i =>
        rw [step_of_pending hp hi]
        refine exec_of_faulted hs fun t b f n src hconstruct => hhead t b f n src ?_
        subst hconstruct
        rw [hp, List.head?_cons, eq_construct_of_decodeEvent hi]

/-! The laws of the baud conversion (R56, R57, R62). -/

/-- Settles O22: division by the doubled rate is antitone, and its quotient is at most 1 exactly below twice the divisor. -/
theorem ticksForIsPositiveAndMonotone : Obligations.TicksForIsPositiveAndMonotone := by
  intro timeBase _
  unfold ticksFor
  refine ⟨fun b _ => Nat.le_max_left _ _, fun b c hb hbc => ?antitone, fun b hb => ?one, fun b hb => ?bound⟩
  case antitone =>
    have hquotient : timeBase / (2 * c) ≤ timeBase / (2 * b) := Nat.div_le_div_left (by omega) (by omega)
    omega
  case one =>
    have hquotient : timeBase / (2 * b) < 2 ↔ timeBase < 2 * (2 * b) := Nat.div_lt_iff_lt_mul (by omega)
    omega
  case bound =>
    have hquotient : timeBase / (2 * b) ≤ timeBase / 2 := Nat.div_le_div_left (by omega) (by omega)
    omega

/-- Settles O23: with 2 * B at most TimeBase the clamp is not in force, so TicksPerHalfBit is the quotient and the bounds are those of
integer division. -/
theorem txDelayIsCloseToTheIdealFrame : Obligations.TxDelayIsCloseToTheIdealFrame := by
  intro s hconfig
  obtain ⟨htime, hbaud, hframe, hhalf⟩ := id hconfig
  have hhalfPos : 1 ≤ s.ticksPerHalfBit := by rw [hhalf]; exact Nat.le_max_left _ _
  refine ⟨?atLeastTwo, fun hslow => ?bounds⟩
  case atLeastTwo => exact Nat.mul_le_mul (Nat.mul_le_mul_right 2 hhalfPos) hframe
  case bounds =>
    have hquotient : s.ticksPerHalfBit = s.timeBase / (2 * s.baudRate) := by
      rw [hhalf, Nat.max_eq_right (Nat.div_pos hslow (by omega))]
    have hlow : s.ticksPerHalfBit * (2 * s.baudRate) ≤ s.timeBase := hquotient ▸ Nat.div_mul_le_self _ _
    have hhigh : s.timeBase < (s.ticksPerHalfBit + 1) * (2 * s.baudRate) :=
      (Nat.div_lt_iff_lt_mul (by omega)).mp (hquotient ▸ Nat.lt_succ_self _)
    constructor
    · calc txDelay s * s.baudRate
          = s.bitsPerFrame * (s.ticksPerHalfBit * (2 * s.baudRate)) := by rw [txDelay]; ac_rfl
        _ ≤ s.bitsPerFrame * s.timeBase := Nat.mul_le_mul_left _ hlow
    · calc s.bitsPerFrame * s.timeBase
          < s.bitsPerFrame * ((s.ticksPerHalfBit + 1) * (2 * s.baudRate)) := Nat.mul_lt_mul_of_pos_left hhigh hframe
        _ = (txDelay s + 2 * s.bitsPerFrame) * s.baudRate := by
          rw [txDelay, Nat.succ_mul, Nat.mul_add, Nat.add_mul]
          ac_rfl

/-! Data writes and the register map (R36, R100). -/

/-- Settles O11: the two cases of WR_DATA, by TxRDY. -/
theorem wrDataStartsFrameOrOverwrites : Obligations.WrDataStartsFrameOrOverwrites := by
  refine fun v s hlive => ⟨fun hready => ?ready, fun hbusy => ?busy⟩ <;> rw [exec_of_live _ hlive]
  case ready => rw [liveEffect_wrData_of_ready v hready]; rfl
  case busy => rw [liveEffect_wrData_of_busy v hbusy]; rfl

theorem liveEffect_wrData_dataOut (v : Byte) (s : State) : (liveEffect (.wrData v) s).dataOut = v := by
  cases hready : s.txRDY with
  | true => rw [liveEffect_wrData_of_ready v hready]; rfl
  | false => rw [liveEffect_wrData_of_busy v hready]; rfl

theorem liveEffect_wrData_txRDY (v : Byte) (s : State) : (liveEffect (.wrData v) s).txRDY = false := by
  cases hready : s.txRDY with
  | true => rw [liveEffect_wrData_of_ready v hready]; rfl
  | false => rw [liveEffect_wrData_of_busy v hready]; exact hready

theorem liveEffect_wrData_dataIn (v : Byte) (s : State) : (liveEffect (.wrData v) s).dataIn = s.dataIn := by
  rw [liveEffect_wrData_frame]

/-- A read at offset 0 is RD_DATA, at offset 1 RD_STATUS, and likewise the writes (R36). -/
theorem memRead_data (s : State) : memRead 0#1 s = exec .rdData s := rfl
theorem memRead_status (s : State) : memRead 1#1 s = exec .rdStatus s := rfl
theorem memWrite_data (v : Byte) (s : State) : memWrite 0#1 v s = exec (.wrData v) s := rfl
theorem memWrite_control (v : Byte) (s : State) : memWrite 1#1 v s = exec (.wrControl v) s := rfl

/-- Settles O13: each offset and direction is one of the bus cycles. -/
theorem registerMapByOffsetAndDirection : Obligations.RegisterMapByOffsetAndDirection := by
  intro v s hlive
  have hwritten : (liveEffect (.wrData v) s).faulted = false := liveEffect_live rfl hlive
  simp only [memRead_data, memRead_status, memWrite_data, memWrite_control]
  refine ⟨⟨_, exec_of_live .rdData hlive, rfl, rfl⟩, ⟨_, exec_of_live .rdStatus hlive, rfl⟩,
    ⟨_, exec_of_live _ hlive, liveEffect_wrData_dataOut v s, liveEffect_wrData_txRDY v s,
      _, exec_of_live .rdData hwritten, ?_⟩,
    ⟨_, exec_of_live _ hlive, controlWrite_frame v s⟩⟩
  exact congrArg Result.byte (liveEffect_wrData_dataIn v s)

end Sys2Proof.Machine
end


section
/-! SUPPORT. Undisturbed runs: what an operation other than a TICK leaves alone, and the clock (R30, R59, R92). -/
namespace Sys2Proof.Machine

/-- An undisturbing operation is a bus cycle, a TICK, a NOW or a legal SET_BAUD. -/
theorem undisturbing_iff (i : Instr) : undisturbing i = true ↔ keepsInstance i = true ∧ i ≠ .reset := by
  simp [undisturbing]

/-- What an undisturbing operation other than a TICK can write: the flags a bus cycle writes, the transmit side of WR_DATA, the baud
rate and the answer. -/
theorem liveEffect_frame_of_undisturbing {i : Instr} (hi : undisturbing i = true) (htick : i ≠ .tick) (s : State) :
    let t := liveEffect i s
    t = { s with
      rxRDY := t.rxRDY, fe := t.fe, oe := t.oe, pe := t.pe
      dataOut := t.dataOut, txRDY := t.txRDY, txE := t.txE, txPhase := t.txPhase, txRemaining := t.txRemaining
      baudRate := t.baudRate, ticksPerHalfBit := t.ticksPerHalfBit, result := t.result } := by
  obtain ⟨hkeeps, hreset⟩ := (undisturbing_iff i).mp hi
  cases i with
  | rdData | rdStatus | now => rfl
  | wrData v => rw [liveEffect_wrData_frame]
  | wrControl v => rw [liveEffect, controlWrite_frame]
  | setBaud b =>
    have hb : 0 < b := of_decide_eq_true hkeeps
    rw [liveEffect_setBaud_of_pos hb]
    rfl
  | tick => exact absurd rfl htick
  | reset => exact absurd rfl hreset
  | construct t b f n src => cases hkeeps

/-- Head and tail of an undisturbed run. -/
theorem all_undisturbing_cons {i : Instr} {is : List Instr} (h : (i :: is).all undisturbing = true) :
    undisturbing i = true ∧ is.all undisturbing = true := by
  simpa only [List.all_cons, Bool.and_eq_true] using h

theorem keepsInstance_of_undisturbing_head {i : Instr} (h : undisturbing i = true) : keepsInstance i = true :=
  ((undisturbing_iff i).mp h).1

/-- An undisturbed run completes, and it leaves the device live. -/
theorem runInstrs_of_undisturbing {is : List Instr} {s : State} (hlive : s.faulted = false)
    (his : is.all undisturbing = true) : runInstrs is s = .next (liveRun is s) ∧ (liveRun is s).faulted = false :=
  runInstrs_of_live hlive (keepsInstance_of_undisturbing his)

@[simp] theorem liveEffect_tick_tickCounter (s : State) : (liveEffect .tick s).tickCounter = s.tickCounter + 1 := by
  simp [liveEffect]

/-- TickCounter advances by the TICKs of the run (R30). -/
theorem liveRun_tickCounter {is : List Instr} (his : is.all undisturbing = true) (s : State) :
    (liveRun is s).tickCounter = s.tickCounter + ticksIn is := by
  induction is generalizing s with
  | nil => rfl
  | cons i is ih =>
    obtain ⟨hi, his⟩ := all_undisturbing_cons his
    rw [liveRun_cons, ih his]
    by_cases htick : i = .tick
    · subst htick
      rw [liveEffect_tick_tickCounter, ticksIn_cons_tick]
      omega
    · rw [ticksIn_cons_of_ne is htick, liveEffect_frame_of_undisturbing hi htick]

/-- Settles O25: of the run's operations TICK alone advances the counter. -/
theorem tickCounterCountsOnlyTicks : Obligations.TickCounterCountsOnlyTicks := by
  intro is s hlive his
  obtain ⟨hrun, hlive'⟩ := runInstrs_of_undisturbing hlive his
  exact ⟨_, hrun, liveRun_tickCounter his s, hlive'⟩

theorem liveRun_append (is js : List Instr) (s : State) : liveRun (is ++ js) s = liveRun js (liveRun is s) :=
  List.foldl_append

theorem ticksIn_replicate_tick (k : Nat) : ticksIn (List.replicate k .tick) = k := List.count_replicate_self

/-- Settles O24: RESET zeroes the counter, and the TICKs behind it are what it counts. -/
theorem nowReturnsTicksSinceReset : Obligations.NowReturnsTicksSinceReset := by
  refine ⟨fun s hlive => exec_of_live .now hlive, fun s k hlive => ⟨_, (runInstrs_of_live hlive ?keeps).1, ?count⟩,
    fun s hs => exec_of_faulted hs nofun⟩
  case keeps => simp [keepsInstance]
  case count =>
    have hticks : (List.replicate k Instr.tick).all undisturbing = true := by simp [undisturbing, keepsInstance]
    have hcount := liveRun_tickCounter hticks (liveEffect .reset s)
    rw [ticksIn_replicate_tick] at hcount
    rw [List.cons_append, liveRun_cons, liveRun_append]
    exact congrArg Result.ticks (hcount.trans (Nat.zero_add k))

end Sys2Proof.Machine
end

section
/-! SUPPORT. A frame in flight through an undisturbed run (R92, R93). -/
namespace Sys2Proof.Machine

/-- A frame is in flight: `v` is to be emitted in `r` TICKs, behind `out`, and both flags are clear. -/
def FrameInFlight (v : Byte) (r : Nat) (out : List Byte) (s : State) : Prop :=
  s.txPhase = .sending ∧ s.txRemaining = r ∧ s.dataOut = v ∧ TxFlagsAre false s ∧ s.sink = out

theorem frameInFlight_of_sameTxSide {v : Byte} {r : Nat} {out : List Byte} {s t : State} (h : SameTxSide s t)
    (hframe : FrameInFlight v r out t) : FrameInFlight v r out s := by
  unfold FrameInFlight TxFlagsAre
  rwa [h.txPhase, h.txRemaining, h.dataOut, h.txRDY, h.txE, h.sink]

/-- A WR_DATA that finds TxRDY set puts its byte in flight for TxDelay TICKs (R100). -/
theorem frameInFlight_of_wrData (v : Byte) {s : State} (hready : s.txRDY = true) :
    FrameInFlight v (txDelay s) s.sink (liveEffect (.wrData v) s) := by
  rw [liveEffect_wrData_of_ready v hready]
  exact ⟨rfl, rfl, rfl, ⟨rfl, rfl⟩, rfl⟩

/-- Before its last TICK a frame in flight only counts down (R89). -/
theorem frameInFlight_tick {v : Byte} {r : Nat} {out : List Byte} {s : State} (h : FrameInFlight v (r + 2) out s) :
    FrameInFlight v (r + 1) out (liveEffect .tick s) := by
  obtain ⟨hp, hr, hv, hflags, hsink⟩ := h
  refine frameInFlight_of_sameTxSide (tick_sameTxSide s) ?_
  rw [transmitPass_of_countdown hp (by omega)]
  exact ⟨hp, by rw [txCountdown_txRemaining, hr]; rfl, hv, hflags, hsink⟩

/-- The last byte written, one operation at a time. -/
theorem lastWritten_cons (v : Byte) (i : Instr) (is : List Instr) :
    lastWritten v (i :: is) = lastWritten (lastWritten v [i]) is := by
  cases i <;> rfl

/-- WR_DATA and TICK are the writers of the transmit side in an undisturbed run (R104). -/
theorem liveEffect_keeps_txSide {i : Instr} (hi : undisturbing i = true) (htick : i ≠ .tick) (hwrite : ∀ v, i ≠ .wrData v)
    (s : State) : SameTxSide (liveEffect i s) s := by
  obtain ⟨hkeeps, hreset⟩ := (undisturbing_iff i).mp hi
  cases i with
  | rdData | rdStatus | now => constructor <;> rfl
  | wrData v => exact absurd rfl (hwrite v)
  | wrControl v => rw [liveEffect, controlWrite_frame]; constructor <;> rfl
  | setBaud b =>
    have hb : 0 < b := of_decide_eq_true hkeeps
    rw [liveEffect_setBaud_of_pos hb]
    constructor <;> rfl
  | tick => exact absurd rfl htick
  | reset => exact absurd rfl hreset
  | construct t b f n src => cases hkeeps

/-- An operation other than a TICK leaves the frame in flight; a WR_DATA changes its byte (R93, D9). -/
theorem frameInFlight_of_not_tick {v : Byte} {r : Nat} {out : List Byte} {s : State} {i : Instr} (hi : undisturbing i = true)
    (htick : i ≠ .tick) (h : FrameInFlight v r out s) : FrameInFlight (lastWritten v [i]) r out (liveEffect i s) := by
  cases i with
  | wrData w =>
    obtain ⟨hp, hr, -, ⟨hready, hE⟩, hsink⟩ := h
    rw [liveEffect_wrData_of_busy w hready]
    exact ⟨hp, hr, rfl, ⟨hready, hE⟩, hsink⟩
  | tick => exact absurd rfl htick
  | rdData | rdStatus | wrControl _ | reset | setBaud _ | construct _ _ _ _ _ | now =>
    exact frameInFlight_of_sameTxSide (liveEffect_keeps_txSide hi htick nofun s) h

/-- A run of fewer TICKs than the countdown leaves the frame in flight, with its last byte and the rest of its countdown. -/
theorem frameInFlight_liveRun {is : List Instr} (his : is.all undisturbing = true) {v : Byte} {r : Nat} {out : List Byte}
    {s : State} (h : FrameInFlight v r out s) (hticks : ticksIn is < r) :
    FrameInFlight (lastWritten v is) (r - ticksIn is) out (liveRun is s) := by
  induction is generalizing v r s with
  | nil => exact h
  | cons i is ih =>
    obtain ⟨hi, his⟩ := all_undisturbing_cons his
    rw [liveRun_cons, lastWritten_cons]
    by_cases htick : i = .tick
    · subst htick
      rw [ticksIn_cons_tick] at hticks ⊢
      obtain ⟨r, rfl⟩ : ∃ r', r = r' + 2 := ⟨r - 2, by omega⟩
      have hnext := ih his (frameInFlight_tick h) (by omega)
      rwa [show r + 2 - (ticksIn is + 1) = r + 1 - ticksIn is by omega]
    · rw [ticksIn_cons_of_ne is htick] at hticks ⊢
      exact ih his (frameInFlight_of_not_tick hi htick h) hticks

/-- The last TICK of a frame in flight emits its byte and raises both flags (R90). -/
theorem frameInFlight_emission {v : Byte} {out : List Byte} {s : State} (h : FrameInFlight v 1 out s) :
    let u := liveEffect .tick s
    u.sink = out ++ [v] ∧ u.txRDY = true ∧ u.txE = true ∧ u.txPhase = .idle := by
  obtain ⟨hp, hr, rfl, -, rfl⟩ := h
  have h := tick_sameTxSide s
  rw [transmitPass_of_last hp hr] at h
  exact ⟨h.sink, h.txRDY, h.txE, h.txPhase⟩

/-- Settles O42: the WR_DATA puts its byte in flight, the run counts it down, and its last TICK emits it. -/
theorem frameIsEmittedAfterTxDelayLastWriteWins : Obligations.FrameIsEmittedAfterTxDelayLastWriteWins := by
  intro v is s hlive hready his hticks
  have hrun := runInstrs_of_undisturbing (is := .wrData v :: is) hlive his
  have hframe := frameInFlight_liveRun his (frameInFlight_of_wrData v hready) hticks
  obtain ⟨hp, hr, hv, ⟨hRdy, hE⟩, hsink⟩ := id hframe
  refine ⟨_, hrun.1, hsink, hRdy, hE, hp, hv, hr, fun hlast => ⟨_, exec_of_live .tick hrun.2, ?_⟩⟩
  refine frameInFlight_emission ?_
  rwa [show txDelay s - ticksIn is = 1 by omega] at hframe

end Sys2Proof.Machine
end


section
/-! SUPPORT. What a run takes from the backend: dead time, overrun, the order of a redirect source and its end (R81 to R85). -/
namespace Sys2Proof.Machine

theorem offeredByte_eq_some_iff (s : State) (b : Byte) :
    offeredByte s = some b ↔ s.rxPhase = .active ∧ pollAnswer s = .data b := by
  unfold offeredByte
  cases s.rxPhase <;> cases pollAnswer s <;> simp

theorem offeredByte_of_not_active {s : State} (hp : s.rxPhase ≠ .active) : offeredByte s = none :=
  Option.eq_none_iff_forall_ne_some.mpr fun b h => hp ((offeredByte_eq_some_iff s b).mp h).1

theorem takenBytes_cons_tick (is : List Instr) {s : State} (hlive : s.faulted = false) :
    takenBytes (.tick :: is) s = (offeredByte s).toList ++ takenBytes is (liveEffect .tick s) :=
  takenBytes_cons_of_live .tick is hlive

theorem takenBytes_cons_of_not_tick {i : Instr} (is : List Instr) {s : State} (hlive : s.faulted = false) (htick : i ≠ .tick) :
    takenBytes (i :: is) s = takenBytes is (liveEffect i s) := by
  rw [takenBytes_cons_of_live i is hlive, if_neg htick, List.nil_append]

/-! The dead-time window (R81). -/

/-- `r` TICKs of dead time are left, none standing for Active; DataIn and the backend's input are as given. -/
def DeadTimeLeft (b : Byte) (pos : Nat) (answers : List (Option Byte)) (r : Nat) (s : State) : Prop :=
  s.rxPhase = (if r = 0 then .active else .deadTime) ∧ (r ≠ 0 → s.rxRemaining = r) ∧
    s.dataIn = b ∧ s.sourcePos = pos ∧ s.pollAnswers = answers

theorem deadTimeLeft_of_sameRxSide {b : Byte} {pos : Nat} {answers : List (Option Byte)} {r : Nat} {s t : State}
    (h : SameRxSide s t) (ht : DeadTimeLeft b pos answers r t) : DeadTimeLeft b pos answers r s := by
  unfold DeadTimeLeft
  rwa [h.rxPhase, h.rxRemaining, h.dataIn, h.sourcePos, h.pollAnswers]

/-- A latch starts DeadTicks of dead time (R77). -/
theorem deadTimeLeft_of_latch {b : Byte} {s : State} (hp : s.rxPhase = .active) (hfree : s.rxRDY = false)
    (ha : pollAnswer s = .data b) :
    DeadTimeLeft b (afterPoll s).sourcePos (afterPoll s).pollAnswers s.deadTicks (liveEffect .tick s) := by
  refine deadTimeLeft_of_sameRxSide (tick_of_latch hp hfree ha) ?_
  rcases Nat.eq_zero_or_pos s.deadTicks with hdead | hdead
  · rw [rxLatch_of_no_deadTicks b (by rwa [afterPoll_deadTicks])]
    exact ⟨by simp [hp, hdead], fun h => absurd hdead h, rfl, rfl, rfl⟩
  · rw [rxLatch_of_deadTicks b (by rwa [afterPoll_deadTicks])]
    exact ⟨by rw [if_neg (by omega)], fun _ => afterPoll_deadTicks s, rfl, rfl, rfl⟩

/-- A TICK of dead time polls nothing and leaves one fewer (R76). -/
theorem deadTimeLeft_tick {b : Byte} {pos : Nat} {answers : List (Option Byte)} {r : Nat} {s : State}
    (h : DeadTimeLeft b pos answers (r + 1) s) :
    offeredByte s = none ∧ DeadTimeLeft b pos answers r (liveEffect .tick s) := by
  obtain ⟨hp, hrem, hrest⟩ := h
  rw [if_neg (Nat.succ_ne_zero r)] at hp
  have hdec : s.rxRemaining - 1 = r := by rw [hrem (Nat.succ_ne_zero r)]; rfl
  refine ⟨offeredByte_of_not_active (by simp [hp]), deadTimeLeft_of_sameRxSide (tick_sameRxSide s) ?_⟩
  rw [receivePass_of_deadTime hp]
  exact ⟨by rw [rxDeadTime_rxPhase, hdec], fun _ => hdec, hrest⟩

/-- Within the window a run takes nothing, and its TICKs count the dead time down. -/
theorem deadTimeLeft_liveRun {is : List Instr} (his : is.all undisturbing = true) {b : Byte} {pos : Nat}
    {answers : List (Option Byte)} {r : Nat} {s : State} (hlive : s.faulted = false)
    (h : DeadTimeLeft b pos answers r s) (hticks : ticksIn is ≤ r) :
    takenBytes is s = [] ∧ DeadTimeLeft b pos answers (r - ticksIn is) (liveRun is s) := by
  induction is generalizing r s with
  | nil => exact ⟨rfl, h⟩
  | cons i is ih =>
    obtain ⟨hi, his⟩ := all_undisturbing_cons his
    have hlive' := liveEffect_live (keepsInstance_of_undisturbing_head hi) hlive
    by_cases htick : i = .tick
    · subst htick
      rw [ticksIn_cons_tick] at hticks ⊢
      obtain ⟨r, rfl⟩ : ∃ r', r = r' + 1 := ⟨r - 1, by omega⟩
      obtain ⟨hoffer, hnext⟩ := deadTimeLeft_tick h
      rw [takenBytes_cons_tick is hlive, hoffer, Nat.add_sub_add_right]
      exact ih his hlive' hnext (by omega)
    · rw [ticksIn_cons_of_ne is htick] at hticks ⊢
      rw [takenBytes_cons_of_not_tick is hlive htick]
      refine ih his hlive' ?_ hticks
      rw [liveEffect_frame_of_undisturbing hi htick]
      exact h

/-- Settles O43: the latch takes its byte and opens the window, and the run stays inside it. -/
theorem noPollDuringDeadTime : Obligations.NoPollDuringDeadTime := by
  intro b is s hlive hp hfree ha his hticks
  have hlive' : (liveEffect .tick s).faulted = false := liveEffect_live rfl hlive
  obtain ⟨htaken, hphase, -, hdata, hpos, hanswers⟩ :=
    deadTimeLeft_liveRun his hlive' (deadTimeLeft_of_latch hp hfree ha) hticks
  refine ⟨_, (runInstrs_of_undisturbing (is := .tick :: is) hlive his).1, ?taken, hdata, Prod.ext hpos hanswers, ?phase⟩
  case taken => rw [takenBytes_cons_tick is hlive, htaken, (offeredByte_eq_some_iff s b).mpr ⟨hp, ha⟩]; rfl
  case phase =>
    have hend : s.deadTicks - ticksIn is = 0 ↔ ticksIn is = s.deadTicks := by omega
    rw [liveRun_cons, hphase]
    simp only [hend]

/-! The unread byte and the overrun (R82, R83). -/

/-- A TICK that takes no byte leaves DataIn and RxRDY (R80). -/
theorem tick_of_no_offer {s : State} (hoffer : offeredByte s = none) :
    (liveEffect .tick s).dataIn = s.dataIn ∧ (liveEffect .tick s).rxRDY = s.rxRDY := by
  have hnone (b : Byte) (hp : s.rxPhase = .active) (ha : pollAnswer s = .data b) : False := by
    rw [(offeredByte_eq_some_iff s b).mpr ⟨hp, ha⟩] at hoffer
    cases hoffer
  rw [(tick_sameRxSide s).dataIn, (tick_sameRxSide s).rxRDY]
  have hrow := receivePass_row s
  generalize receivePass s = t at hrow ⊢
  cases hrow with
  | exhausted | wake | deadTime => exact ⟨rfl, rfl⟩
  | latch hp _ b ha | overrun hp _ b ha => exact (hnone b hp ha).elim
  | endOfInput | noData => simp

/-- An operation other than a TICK leaves DataIn, and of these RD_DATA alone clears RxRDY (R98). -/
theorem liveEffect_unread_of_not_tick {i : Instr} (hi : undisturbing i = true) (htick : i ≠ .tick) (s : State) :
    (liveEffect i s).dataIn = s.dataIn ∧ (liveEffect i s).rxRDY = (s.rxRDY && !decide (i = .rdData)) := by
  obtain ⟨hkeeps, hreset⟩ := (undisturbing_iff i).mp hi
  refine ⟨by rw [liveEffect_frame_of_undisturbing hi htick], ?_⟩
  by_cases hread : i = .rdData
  · subst hread
    exact (Bool.and_false _).symm
  · rcases liveEffect_rxRDY i s with hkept | ⟨ht, -⟩ | ⟨hr | hr | ⟨t, b, f, n, src, rfl⟩, -⟩
    · simp [hkept, hread]
    · exact absurd ht htick
    · exact absurd hr hread
    · exact absurd hr hreset
    · cases hkeeps

/-- A run that takes no byte leaves DataIn, and RxRDY unless it reads DataIn. -/
theorem liveRun_unread {is : List Instr} (his : is.all undisturbing = true) {s : State} (hlive : s.faulted = false)
    (htaken : takenBytes is s = []) :
    (liveRun is s).dataIn = s.dataIn ∧ (liveRun is s).rxRDY = (s.rxRDY && !decide (.rdData ∈ is)) := by
  induction is generalizing s with
  | nil => simp
  | cons i is ih =>
    obtain ⟨hi, his⟩ := all_undisturbing_cons his
    have hlive' := liveEffect_live (keepsInstance_of_undisturbing_head hi) hlive
    rw [liveRun_cons]
    by_cases htick : i = .tick
    · subst htick
      rw [takenBytes_cons_tick is hlive, List.append_eq_nil_iff, Option.toList_eq_nil_iff] at htaken
      obtain ⟨hdata, hready⟩ := tick_of_no_offer htaken.1
      simpa [hdata, hready] using ih his hlive' htaken.2
    · rw [takenBytes_cons_of_not_tick is hlive htick] at htaken
      obtain ⟨hdata, hready⟩ := liveEffect_unread_of_not_tick hi htick s
      obtain ⟨hdata', hready'⟩ := ih his hlive' htaken
      refine ⟨hdata'.trans hdata, ?_⟩
      rw [hready', hready, Bool.and_assoc]
      simp [List.mem_cons, eq_comm]

/-- Settles O44: a run that takes nothing leaves the byte unread or read, and the next offer overruns or latches. -/
theorem nextByteOverrunsUnlessDataWasRead : Obligations.NextByteOverrunsUnlessDataWasRead := by
  intro b is s t hlive hfull his hrun htaken hoffer
  obtain ⟨hrun', hlive'⟩ := runInstrs_of_undisturbing hlive his
  obtain rfl : liveRun is s = t := Host.Outcome.next.inj (hrun'.symm.trans hrun)
  obtain ⟨hp, ha⟩ := (offeredByte_eq_some_iff _ b).mp hoffer
  obtain ⟨hdata, hready⟩ := liveRun_unread his hlive htaken
  refine ⟨_, exec_of_live .tick hlive', ?_⟩
  by_cases hread : .rdData ∈ is
  · have h := tick_of_latch hp (by simp [hready, hread]) ha
    refine ⟨by rw [h.rxRDY, rxLatch_rxRDY], fun _ => ⟨by rw [h.dataIn, rxLatch_dataIn], ?_⟩, absurd hread⟩
    rw [h.oe, rxLatch_oe, afterPoll_oe]
  · have hunread : (liveRun is s).rxRDY = true := by simp [hready, hfull, hread]
    have h := tick_of_overrun hp hunread ha
    refine ⟨?_, fun hmem => absurd hmem hread, fun _ => ⟨?_, by rw [h.oe, rxOverrun_oe]⟩⟩
    · rw [h.rxRDY, rxOverrun_rxRDY, afterPoll_rxRDY, hunread]
    · rw [h.dataIn, rxOverrun_dataIn, afterPoll_dataIn, hdata]

/-! The order of a redirect source (R48, R123). -/

/-- An operation of the device's life other than a TICK leaves the source and its position, RESET included (R123). -/
theorem liveEffect_source_of_not_tick {i : Instr} (hi : keepsInstance i = true) (htick : i ≠ .tick) (s : State) :
    (liveEffect i s).inputSource = s.inputSource ∧ (liveEffect i s).sourcePos = s.sourcePos := by
  by_cases hreset : i = .reset
  · subst hreset
    exact ⟨rfl, rfl⟩
  · rw [liveEffect_frame_of_undisturbing ((undisturbing_iff i).mpr ⟨hi, hreset⟩) htick]
    exact ⟨rfl, rfl⟩

theorem liveEffect_tick_inputSource (s : State) : (liveEffect .tick s).inputSource = s.inputSource := by
  simp [liveEffect]

/-- A TICK takes the source's next byte and moves past it, or takes nothing and stays (R37). -/
theorem tick_of_redirect {bytes : List Byte} {s : State} (hsource : s.inputSource = .redirect bytes) :
    (offeredByte s = none ∧ (liveEffect .tick s).sourcePos = s.sourcePos) ∨
      ∃ hmore : s.sourcePos < bytes.length,
        offeredByte s = some bytes[s.sourcePos] ∧ (liveEffect .tick s).sourcePos = s.sourcePos + 1 := by
  rw [(tick_sameRxSide s).sourcePos]
  by_cases hp : s.rxPhase = .active
  · rw [(receivePass_input_of_active hp).1]
    rcases Nat.lt_or_ge s.sourcePos bytes.length with hmore | hend
    · have hoffer := (offeredByte_eq_some_iff s _).mpr ⟨hp, pollAnswer_of_redirect_byte hsource hmore⟩
      exact .inr ⟨hmore, hoffer, by rw [afterPoll_of_redirect_byte hsource hmore]⟩
    · refine .inl ⟨Option.eq_none_iff_forall_ne_some.mpr fun b h => ?_, by rw [afterPoll_of_redirect_end hsource hend]⟩
      have ha := ((offeredByte_eq_some_iff s b).mp h).2
      rw [pollAnswer_of_redirect_end hsource hend] at ha
      cases ha
  · exact .inl ⟨offeredByte_of_not_active hp, (receivePass_input_of_not_active hp).1⟩

/-- The next bytes of a source: the slice of the given length at the position. -/
def IsNextSlice (bytes : List Byte) (pos : Nat) (taken : List Byte) : Prop :=
  taken = (bytes.drop pos).take taken.length

theorem isNextSlice_nil (bytes : List Byte) (pos : Nat) : IsNextSlice bytes pos [] := rfl

theorem isNextSlice_cons {bytes : List Byte} {pos : Nat} {taken : List Byte} (hmore : pos < bytes.length)
    (h : IsNextSlice bytes (pos + 1) taken) : IsNextSlice bytes pos (bytes[pos] :: taken) := by
  unfold IsNextSlice at h ⊢
  rw [List.drop_eq_getElem_cons hmore, List.length_cons, List.take_succ_cons, ← h]

/-- A run takes the source's next bytes, moves past them, and takes at most one a TICK. -/
theorem takenBytes_of_redirect {bytes : List Byte} {is : List Instr} (his : is.all keepsInstance = true) {s : State}
    (hlive : s.faulted = false) (hsource : s.inputSource = .redirect bytes) :
    IsNextSlice bytes s.sourcePos (takenBytes is s) ∧
      (liveRun is s).sourcePos = s.sourcePos + (takenBytes is s).length ∧ (takenBytes is s).length ≤ ticksIn is := by
  induction is generalizing s with
  | nil => exact ⟨isNextSlice_nil _ _, rfl, Nat.le_refl 0⟩
  | cons i is ih =>
    obtain ⟨hi, his⟩ : keepsInstance i = true ∧ is.all keepsInstance = true := by
      simpa only [List.all_cons, Bool.and_eq_true] using his
    have hlive' := liveEffect_live hi hlive
    rw [liveRun_cons]
    by_cases htick : i = .tick
    · subst htick
      obtain ⟨hslice, hpos, hticks⟩ := ih his hlive' ((liveEffect_tick_inputSource s).trans hsource)
      rw [takenBytes_cons_tick is hlive, ticksIn_cons_tick]
      rcases tick_of_redirect hsource with ⟨hoffer, hstay⟩ | ⟨hmore, hoffer, hmove⟩ <;> rw [hoffer]
      · rw [hstay] at hslice hpos
        exact ⟨hslice, hpos, Nat.le_succ_of_le hticks⟩
      · rw [hmove] at hslice hpos
        refine ⟨isNextSlice_cons hmore hslice, ?_, Nat.succ_le_succ hticks⟩
        rw [hpos, Option.toList_some, List.singleton_append, List.length_cons]
        omega
    · obtain ⟨hsame, hstay⟩ := liveEffect_source_of_not_tick hi htick s
      rw [takenBytes_cons_of_not_tick is hlive htick, ticksIn_cons_of_ne is htick, ← hstay]
      exact ih his hlive' (hsame.trans hsource)

/-- Settles O45: a TICK takes the byte at the position and moves past it, and no other operation of the run moves it. -/
theorem redirectBytesAreTakenInOrder : Obligations.RedirectBytesAreTakenInOrder := by
  intro bytes is s hlive hsource his
  exact ⟨_, (runInstrs_of_live hlive his).1, takenBytes_of_redirect his hlive hsource⟩

/-! The end of the input (R79, R85). -/

/-- The receiver is exhausted: it is Idle and stays so. -/
def Exhausted (s : State) : Prop := s.rxPhase = .idle ∧ s.rxExhausted = true

/-- `t` has received nothing since `s`: DataIn and the backend's input are the same, and RxRDY has not risen. -/
def ReceivedNothing (s t : State) : Prop :=
  t.dataIn = s.dataIn ∧ t.sourcePos = s.sourcePos ∧ t.pollAnswers = s.pollAnswers ∧ (t.rxRDY = true → s.rxRDY = true)

theorem receivedNothing_trans {s t u : State} (h : ReceivedNothing s t) (k : ReceivedNothing t u) : ReceivedNothing s u := by
  obtain ⟨hdata, hpos, hanswers, hready⟩ := h
  obtain ⟨hdata', hpos', hanswers', hready'⟩ := k
  exact ⟨hdata'.trans hdata, hpos'.trans hpos, hanswers'.trans hanswers, hready ∘ hready'⟩

/-- No undisturbing operation wakes an exhausted receiver or receives. -/
theorem exhausted_step {i : Instr} (hi : undisturbing i = true) {s : State} (h : Exhausted s) :
    Exhausted (liveEffect i s) ∧ ReceivedNothing s (liveEffect i s) := by
  obtain ⟨hp, hexh⟩ := id h
  by_cases htick : i = .tick
  · subst htick
    have hside := tick_sameRxSide s
    rw [receivePass_of_exhausted hp hexh] at hside
    exact ⟨⟨hside.rxPhase.trans hp, hside.rxExhausted.trans hexh⟩,
      hside.dataIn, hside.sourcePos, hside.pollAnswers, hside.rxRDY ▸ id⟩
  · obtain ⟨hdata, hready⟩ := liveEffect_unread_of_not_tick hi htick s
    refine ⟨by rw [liveEffect_frame_of_undisturbing hi htick]; exact h, hdata, ?_, ?_, ?_⟩
    · rw [liveEffect_frame_of_undisturbing hi htick]
    · rw [liveEffect_frame_of_undisturbing hi htick]
    · rw [hready]
      exact fun hset => (Bool.and_eq_true_iff.mp hset).1

theorem exhausted_liveRun {is : List Instr} (his : is.all undisturbing = true) {s : State} (hlive : s.faulted = false)
    (h : Exhausted s) :
    Exhausted (liveRun is s) ∧ ReceivedNothing s (liveRun is s) ∧ takenBytes is s = [] := by
  induction is generalizing s with
  | nil => exact ⟨h, ⟨rfl, rfl, rfl, id⟩, rfl⟩
  | cons i is ih =>
    obtain ⟨hi, his⟩ := all_undisturbing_cons his
    have hlive' := liveEffect_live (keepsInstance_of_undisturbing_head hi) hlive
    obtain ⟨hstill, hnothing⟩ := exhausted_step hi h
    obtain ⟨hend, hnothing', htaken⟩ := ih his hlive' hstill
    refine ⟨hend, receivedNothing_trans hnothing hnothing', ?_⟩
    have hoffer : offeredByte s = none := offeredByte_of_not_active (by simp [h.1])
    rw [takenBytes_cons_of_live i is hlive, hoffer, htaken]
    simp

/-- Settles O47: exhaustion is kept by every operation of the run, and an exhausted receiver takes nothing. -/
theorem exhaustionEndsReceptionUntilReset : Obligations.ExhaustionEndsReceptionUntilReset := by
  intro is s hlive hp hexh his
  obtain ⟨⟨hp', hexh'⟩, ⟨hdata, hpos, hanswers, hready⟩, htaken⟩ := exhausted_liveRun his hlive ⟨hp, hexh⟩
  exact ⟨_, (runInstrs_of_undisturbing hlive his).1, hp', hexh', hdata, Prod.ext hpos hanswers, htaken, hready⟩

end Sys2Proof.Machine
end


section
/-! SUPPORT. The countdowns of a run against its emissions (R48, R95). -/
namespace Sys2Proof.Machine

/-- One operation emits `out` at the end of the sink, and what is in flight changes by the frame it starts and the bytes it emits. -/
def Balanced (started : Nat) (s t : State) : Prop :=
  ∃ out, t.sink = s.sink ++ out ∧ out.length + inFlight t = inFlight s + started

theorem balanced_of_kept {s t : State} (hsink : t.sink = s.sink) (hp : t.txPhase = s.txPhase) : Balanced 0 s t :=
  ⟨[], by simp [hsink], by simp [inFlight, hp]⟩

theorem balanced_trans {m n : Nat} {s t u : State} (h : Balanced m s t) (k : Balanced n t u) : Balanced (m + n) s u := by
  obtain ⟨out, hsink, hlen⟩ := h
  obtain ⟨out', hsink', hlen'⟩ := k
  refine ⟨out ++ out', by rw [hsink', hsink, List.append_assoc], ?_⟩
  rw [List.length_append]
  omega

theorem inFlight_of_idle {s : State} (hp : s.txPhase = .idle) : inFlight s = 0 := by simp only [inFlight, hp]

theorem inFlight_of_sending {s : State} (hp : s.txPhase = .sending) : inFlight s = 1 := by simp only [inFlight, hp]

/-- A TICK emits the byte in flight at the end of its countdown, and nothing before (R89, R90). -/
theorem tick_balanced {s : State} (hinv : s.TxInv) : Balanced 0 s (liveEffect .tick s) := by
  have h := tick_sameTxSide s
  cases hp : s.txPhase with
  | idle =>
    rw [transmitPass_of_idle hp] at h
    exact balanced_of_kept h.sink h.txPhase
  | sending =>
    rcases countdown_of_sending hinv hp with hrun | hlast
    · rw [transmitPass_of_countdown hp hrun] at h
      exact balanced_of_kept h.sink h.txPhase
    · rw [transmitPass_of_last hp hlast] at h
      exact ⟨[s.dataOut], h.sink, by rw [inFlight_of_idle h.txPhase, inFlight_of_sending hp]; rfl⟩

/-- A WR_DATA puts a byte in flight exactly when it starts a countdown (R100). -/
theorem wrData_balanced (v : Byte) {s : State} (hinv : s.TxInv) : Balanced s.txRDY.toNat s (liveEffect (.wrData v) s) := by
  obtain ⟨hRdy, -⟩ := hinv
  cases hready : s.txRDY with
  | true =>
    have hp : s.txPhase = .idle := of_decide_eq_true (hRdy.symm.trans hready)
    rw [liveEffect_wrData_of_ready v hready]
    exact ⟨[], (List.append_nil _).symm, by rw [inFlight_of_idle hp]; rfl⟩
  | false =>
    rw [liveEffect_wrData_of_busy v hready]
    exact balanced_of_kept rfl rfl

/-- Every undisturbing operation is balanced: WR_DATA and TICK move the count, and the others leave the transmit side. -/
theorem liveEffect_balanced {i : Instr} (hi : undisturbing i = true) {s : State} (hinv : s.TxInv) :
    Balanced (startsFrame i s).toNat s (liveEffect i s) := by
  cases i with
  | wrData v => exact wrData_balanced v hinv
  | tick => exact tick_balanced hinv
  | rdData | rdStatus | wrControl _ | reset | setBaud _ | construct _ _ _ _ _ | now =>
    have h := liveEffect_keeps_txSide hi nofun nofun s
    exact balanced_of_kept h.sink h.txPhase

theorem liveRun_balanced {is : List Instr} (his : is.all undisturbing = true) {s : State} (hlive : s.faulted = false)
    (hinv : s.Inv) : Balanced (framesStarted is s) s (liveRun is s) := by
  induction is generalizing s with
  | nil => exact balanced_of_kept rfl rfl
  | cons i is ih =>
    obtain ⟨hi, his⟩ := all_undisturbing_cons his
    have hlive' := liveEffect_live (keepsInstance_of_undisturbing_head hi) hlive
    rw [framesStarted_cons_of_live i is hlive]
    exact balanced_trans (liveEffect_balanced hi hinv.1) (ih his hlive' (liveEffect_inv i hinv))

/-- Settles O46: the balance of one operation, summed over the run. -/
theorem oneEmissionPerCountdown : Obligations.OneEmissionPerCountdown := by
  intro is s hlive hinv his
  obtain ⟨out, hsink, hlen⟩ := liveRun_balanced his hlive hinv
  exact ⟨_, out, (runInstrs_of_undisturbing hlive his).1, hsink, hlen⟩

end Sys2Proof.Machine
end

section
/-! SUPPORT. Two states that look alike to the CPU, under the same bus cycles (R103). -/
namespace Sys2Proof.Machine

/-- The status byte is the eight flags: states with equal flags show equal bytes (R63). -/
theorem statusByte_congr {s t : State} (hRdy : s.txRDY = t.txRDY) (hrx : s.rxRDY = t.rxRDY) (hE : s.txE = t.txE)
    (hpe : s.pe = t.pe) (hoe : s.oe = t.oe) (hfe : s.fe = t.fe) (hsyndet : s.syndet = t.syndet) (hdsr : s.dsr = t.dsr) :
    statusByte s = statusByte t := by
  simp only [statusByte, hRdy, hrx, hE, hpe, hoe, hfe, hsyndet, hdsr]

/-- What the CPU has seen of the two states is the same: their view, and the latest answer. -/
def SameToCpu (s t : State) : Prop := SameCpuView s t ∧ s.result = t.result

theorem wrData_sameToCpu (v : Byte) {s t : State} (h : SameToCpu s t) :
    SameToCpu (liveEffect (.wrData v) s) (liveEffect (.wrData v) t) := by
  obtain ⟨⟨hstatus, hdata, hfaulted⟩, hresult⟩ := h
  obtain ⟨hRdy, hrx, hE, hpe, hoe, hfe, hsyndet, hdsr⟩ := flags_eq_of_statusByte_eq hstatus
  cases hready : s.txRDY with
  | true =>
    rw [liveEffect_wrData_of_ready v hready, liveEffect_wrData_of_ready v (hRdy ▸ hready)]
    exact ⟨⟨statusByte_congr rfl hrx rfl hpe hoe hfe hsyndet hdsr, hdata, hfaulted⟩, hresult⟩
  | false =>
    rw [liveEffect_wrData_of_busy v hready, liveEffect_wrData_of_busy v (hRdy ▸ hready)]
    exact ⟨⟨hstatus, hdata, hfaulted⟩, hresult⟩

theorem controlWrite_sameToCpu (v : Byte) {s t : State} (h : SameToCpu s t) :
    SameToCpu (controlWrite v s) (controlWrite v t) := by
  obtain ⟨⟨hstatus, hdata, hfaulted⟩, hresult⟩ := id h
  obtain ⟨hRdy, hrx, hE, -, -, -, hsyndet, hdsr⟩ := flags_eq_of_statusByte_eq hstatus
  cases hbit : v.getLsbD 4 with
  | true =>
    rw [controlWrite_of_bit hbit, controlWrite_of_bit hbit]
    exact ⟨⟨statusByte_congr hRdy hrx hE rfl rfl rfl hsyndet hdsr, hdata, hfaulted⟩, hresult⟩
  | false => rwa [controlWrite_of_no_bit hbit, controlWrite_of_no_bit hbit]

/-- A bus cycle answers from the CPU's view and leaves the states alike. -/
theorem busCycle_sameToCpu {i : Instr} (hi : i.isBusCycle = true) {s t : State} (h : SameToCpu s t) :
    SameToCpu (liveEffect i s) (liveEffect i t) := by
  obtain ⟨⟨hstatus, hdata, hfaulted⟩, -⟩ := id h
  cases i with
  | rdData =>
    obtain ⟨hRdy, -, hE, hpe, hoe, hfe, hsyndet, hdsr⟩ := flags_eq_of_statusByte_eq hstatus
    exact ⟨⟨statusByte_congr hRdy rfl hE hpe hoe hfe hsyndet hdsr, hdata, hfaulted⟩, congrArg Result.byte hdata⟩
  | rdStatus => exact ⟨⟨hstatus, hdata, hfaulted⟩, congrArg Result.byte hstatus⟩
  | wrData v => exact wrData_sameToCpu v h
  | wrControl v => exact controlWrite_sameToCpu v h
  | tick | reset | setBaud _ | construct _ _ _ _ _ | now => cases hi

theorem liveRun_sameToCpu {is : List Instr} (his : is.all Instr.isBusCycle = true) {s t : State} (h : SameToCpu s t) :
    SameToCpu (liveRun is s) (liveRun is t) := by
  induction is generalizing s t with
  | nil => exact h
  | cons i is ih =>
    rw [List.all_cons, Bool.and_eq_true] at his
    exact ih his.2 (busCycle_sameToCpu his.1 h)

theorem keepsInstance_of_busCycles {is : List Instr} (his : is.all Instr.isBusCycle = true) : is.all keepsInstance = true :=
  List.all_eq_true.mpr fun i hi => keepsInstance_of_busCycle_or_tick (.inl (List.all_eq_true.mp his i hi))

/-- Settles O48: the two runs stay alike cycle by cycle. -/
theorem busCyclesRevealOnlyTheCpuView : Obligations.BusCyclesRevealOnlyTheCpuView := by
  intro is s t hview hlive hresult his
  have hkeeps := keepsInstance_of_busCycles his
  have hlive' : t.faulted = false := hview.2.2 ▸ hlive
  obtain ⟨hview', hresult'⟩ := liveRun_sameToCpu his ⟨hview, hresult⟩
  exact ⟨_, _, (runInstrs_of_live hlive hkeeps).1, (runInstrs_of_live hlive' hkeeps).1, hview', hresult'⟩

end Sys2Proof.Machine
end

section
/-! SUPPORT. Host scripts: the lines with a fixed expansion, and the polling loops by their rounds (R55). -/
namespace Sys2Proof.Machine

theorem runInstrs_singleton (i : Instr) (s : State) : runInstrs [i] s = exec i s := by
  rw [runInstrs]
  cases exec i s <;> rfl

/-- Settles O50: each line with an expansion runs it and then looks after the variables. -/
theorem scriptPseudoFormsExpand : Obligations.ScriptPseudoFormsExpand := by
  refine ⟨fun n => rfl, rfl, fun line is vars s fuel hexpand => ?_⟩
  cases line with
  | wait w => cases hexpand
  | event i | readInto i var | clrErr => cases hexpand; simp [runLine, runInstrs_singleton, Function.comp_def]
  | ticks n => cases hexpand; simp [runLine, Function.comp_def]

/-- One round on a live device: a status read, and unless the bit is set a TICK before the next round. -/
theorem waitLoop_succ (w : StatusWait) (fuel : Nat) {s : State} (hlive : s.faulted = false) :
    waitLoop w (fuel + 1) s =
      if (statusByte s).getLsbD w.bit = true then some (liveEffect .rdStatus s)
      else waitLoop w fuel (liveEffect .tick (liveEffect .rdStatus s)) := by
  have hlive' : (liveEffect .rdStatus s).faulted = false := hlive
  simp only [waitLoop, exec_of_live .rdStatus hlive, exec_of_live .tick hlive']
  rfl

theorem waitLoop_of_set {w : StatusWait} (fuel : Nat) {s : State} (hlive : s.faulted = false)
    (hset : (statusByte s).getLsbD w.bit = true) : waitLoop w (fuel + 1) s = some (liveEffect .rdStatus s) := by
  rw [waitLoop_succ w fuel hlive, if_pos hset]

theorem waitLoop_of_clear {w : StatusWait} (fuel : Nat) {s : State} (hlive : s.faulted = false)
    (hclear : (statusByte s).getLsbD w.bit = false) :
    waitLoop w (fuel + 1) s = waitLoop w fuel (liveEffect .tick (liveEffect .rdStatus s)) := by
  rw [waitLoop_succ w fuel hlive, if_neg (by simp [hclear])]

theorem waitLoop_of_faulted (w : StatusWait) (fuel : Nat) {s : State} (hs : s.faulted = true) : waitLoop w fuel s = none := by
  cases fuel with
  | zero => rfl
  | succ fuel => simp only [waitLoop, exec_of_faulted (i := .rdStatus) hs nofun]

/-- Settles O52: the loop equation, round by round. -/
theorem pollingLoopReadsTestsAndTicks : Obligations.PollingLoopReadsTestsAndTicks := by
  refine ⟨⟨rfl, rfl, rfl⟩, fun w s => rfl, fun w fuel s hlive => ?round, fun w fuel s => waitLoop_of_faulted w fuel,
    fun w fuel vars s t => ?line⟩
  case round =>
    have hlive' : (liveEffect .rdStatus s).faulted = false := hlive
    exact ⟨_, _, exec_of_live .rdStatus hlive, rfl, waitLoop_of_set fuel hlive,
      fun hclear => ⟨_, exec_of_live .tick hlive', waitLoop_of_clear fuel hlive hclear⟩⟩
  case line => simp [runLine]

/-- Bit 2 of the status byte is TxE (R64). -/
theorem txE_bit (s : State) : (statusByte s).getLsbD StatusWait.txE.bit = s.txE := statusByte_bit2 s

/-- The byte in flight, if there is one (R95). -/
def byteInFlight (s : State) : List Byte := if s.txPhase = .sending then [s.dataOut] else []

theorem byteInFlight_of_idle {s : State} (hp : s.txPhase = .idle) : byteInFlight s = [] := by
  simp [byteInFlight, hp]

theorem byteInFlight_of_sending {s : State} (hp : s.txPhase = .sending) : byteInFlight s = [s.dataOut] := if_pos hp

/-- A TICK counts down, and neither adds to nor loses from what is emitted or in flight (R89, R90). -/
theorem tick_keeps_bytes {s : State} (hinv : s.TxInv) :
    (liveEffect .tick s).txRemaining = s.txRemaining - 1 ∧
      (liveEffect .tick s).sink ++ byteInFlight (liveEffect .tick s) = s.sink ++ byteInFlight s := by
  have h := tick_sameTxSide s
  cases hp : s.txPhase with
  | idle =>
    rw [transmitPass_of_idle hp] at h
    rw [byteInFlight_of_idle hp, byteInFlight_of_idle (h.txPhase.trans hp), h.sink, h.txRemaining]
    exact ⟨by rw [txRemaining_of_idle hinv hp], rfl⟩
  | sending =>
    rw [byteInFlight_of_sending hp]
    rcases countdown_of_sending hinv hp with hrun | hlast
    · rw [transmitPass_of_countdown hp hrun] at h
      rw [byteInFlight_of_sending (h.txPhase.trans hp), h.sink, h.dataOut]
      exact ⟨h.txRemaining, rfl⟩
    · rw [transmitPass_of_last hp hlast] at h
      rw [byteInFlight_of_idle h.txPhase, List.append_nil]
      exact ⟨h.txRemaining, h.sink⟩

/-- The countdown is over exactly in Idle (I2). -/
theorem idle_of_txRemaining_zero {s : State} (hinv : s.TxInv) (hzero : s.txRemaining = 0) : s.txPhase = .idle := by
  cases hp : s.txPhase with
  | idle => rfl
  | sending => have := countdown_of_sending hinv hp; omega

theorem sending_of_txRemaining_pos {s : State} (hinv : s.TxInv) (hpos : 0 < s.txRemaining) : s.txPhase = .sending := by
  cases hp : s.txPhase with
  | idle => have := txRemaining_of_idle hinv hp; omega
  | sending => rfl

/-- WAIT_TXE from a transmitter with `n` TICKs to run ends after them, with the byte in flight emitted. -/
theorem waitTxE_ends {n : Nat} {s : State} (hlive : s.faulted = false) (hinv : s.TxInv) (hn : s.txRemaining = n) :
    ∃ t, waitLoop .txE (n + 1) s = some t ∧ t.tickCounter = s.tickCounter + n ∧ t.txE = true ∧ t.txRDY = true ∧
      t.sink = s.sink ++ byteInFlight s := by
  induction n generalizing s with
  | zero =>
    have hp := idle_of_txRemaining_zero hinv hn
    obtain ⟨hRdy, hE, -⟩ := hinv
    rw [decide_eq_true hp] at hRdy hE
    rw [byteInFlight_of_idle hp, List.append_nil]
    exact ⟨_, waitLoop_of_set 0 hlive ((txE_bit s).trans hE), rfl, hE, hRdy, rfl⟩
  | succ n ih =>
    have hp := sending_of_txRemaining_pos hinv (by omega)
    have hclear : s.txE = false := (txFlagsAre_false_of_sending hinv hp).2
    let r := liveEffect .rdStatus s
    have hread : r.TxInv := hinv
    have hlive' : (liveEffect .tick r).faulted = false := liveEffect_live (s := r) rfl hlive
    have hinv' := txInv_of_sameTxSide (tick_sameTxSide r) (transmitPass_txInv hread)
    obtain ⟨hrem, hbytes⟩ := tick_keeps_bytes hread
    obtain ⟨t, hloop, hticks, hE, hRdy, hsink⟩ := ih hlive' hinv' (hrem.trans (congrArg (· - 1) hn))
    have hcount : r.tickCounter + 1 + n = s.tickCounter + (n + 1) := Nat.add_right_comm _ _ _
    rw [liveEffect_tick_tickCounter] at hticks
    exact ⟨t, (waitLoop_of_clear _ hlive ((txE_bit s).trans hclear)).trans hloop, hticks.trans hcount, hE, hRdy,
      hsink.trans hbytes⟩

/-- Settles O51, by induction on the countdown. -/
theorem waitTxEEndsAfterTxRemainingTicks : Obligations.WaitTxEEndsAfterTxRemainingTicks :=
  fun _ hlive hinv => waitTxE_ends hlive hinv.1 rfl

/-! The rounds of a polling loop. -/

/-- `k` rounds of a status read and a TICK, and one more read. -/
def pollRounds (k : Nat) : List Instr := (List.replicate k [Instr.rdStatus, Instr.tick]).flatten ++ [Instr.rdStatus]

theorem pollRounds_succ (k : Nat) : pollRounds (k + 1) = .rdStatus :: .tick :: pollRounds k := rfl

theorem runInstrs_pollRounds_zero {s : State} (hlive : s.faulted = false) :
    runInstrs (pollRounds 0) s = .next (liveEffect .rdStatus s) :=
  (runInstrs_singleton .rdStatus s).trans (exec_of_live .rdStatus hlive)

theorem runInstrs_pollRounds_succ (k : Nat) {s : State} (hlive : s.faulted = false) :
    runInstrs (pollRounds (k + 1)) s = runInstrs (pollRounds k) (liveEffect .tick (liveEffect .rdStatus s)) := by
  rw [pollRounds_succ, runInstrs_cons_of_live _ _ hlive, runInstrs_cons_of_live .tick _ (liveEffect_live rfl hlive)]

/-- From `s`, `k` reads show the bit clear and the next one, which leaves `t`, shows it set. -/
def FirstSetAfter (w : StatusWait) (k : Nat) (s t : State) : Prop :=
  runInstrs (pollRounds k) s = .next t ∧ (statusByte t).getLsbD w.bit = true ∧
    ∀ j, j < k → ∃ u, runInstrs (pollRounds j) s = .next u ∧ (statusByte u).getLsbD w.bit = false

/-- With the bit set the first read shows it, and only the first. -/
theorem firstSetAfter_of_set {w : StatusWait} {k : Nat} {s t : State} (hlive : s.faulted = false)
    (hset : (statusByte s).getLsbD w.bit = true) : FirstSetAfter w k s t ↔ k = 0 ∧ t = liveEffect .rdStatus s := by
  constructor
  · rintro ⟨hrun, -, hbefore⟩
    rcases Nat.eq_zero_or_pos k with rfl | hk
    · rw [runInstrs_pollRounds_zero hlive] at hrun
      exact ⟨rfl, (Host.Outcome.next.inj hrun).symm⟩
    · obtain ⟨u, hu, hclear⟩ := hbefore 0 hk
      rw [runInstrs_pollRounds_zero hlive] at hu
      cases hu
      exact absurd (hset.symm.trans hclear) nofun
  · rintro ⟨rfl, rfl⟩
    exact ⟨runInstrs_pollRounds_zero hlive, hset, nofun⟩

/-- With the bit clear the first read does not show it, and the rest is the same after a TICK. -/
theorem firstSetAfter_of_clear {w : StatusWait} {k : Nat} {s t : State} (hlive : s.faulted = false)
    (hclear : (statusByte s).getLsbD w.bit = false) :
    FirstSetAfter w k s t ↔ ∃ m, k = m + 1 ∧ FirstSetAfter w m (liveEffect .tick (liveEffect .rdStatus s)) t := by
  cases k with
  | zero =>
    refine iff_of_false (fun ⟨hrun, hset, _⟩ => ?_) (fun ⟨m, hm, _⟩ => nomatch hm)
    rw [runInstrs_pollRounds_zero hlive] at hrun
    cases hrun
    exact absurd (hset.symm.trans hclear) nofun
  | succ m =>
    have hbefore : (∀ j, j < m + 1 → ∃ u, runInstrs (pollRounds j) s = .next u ∧ (statusByte u).getLsbD w.bit = false) ↔
        ∀ j, j < m → ∃ u, runInstrs (pollRounds j) (liveEffect .tick (liveEffect .rdStatus s)) = .next u ∧
          (statusByte u).getLsbD w.bit = false := by
      rw [Nat.forall_lt_succ_left]
      simp only [runInstrs_pollRounds_succ _ hlive]
      exact and_iff_right ⟨_, runInstrs_pollRounds_zero hlive, hclear⟩
    simp only [FirstSetAfter, runInstrs_pollRounds_succ m hlive, hbefore, Nat.succ.injEq, exists_eq_left']

/-- A polling loop ends in the read that first shows its bit set, if its rounds suffice. -/
theorem waitLoop_eq_some_iff (w : StatusWait) (fuel : Nat) {s t : State} (hlive : s.faulted = false) :
    waitLoop w fuel s = some t ↔ ∃ k, k < fuel ∧ FirstSetAfter w k s t := by
  induction fuel generalizing s with
  | zero => exact iff_of_false nofun fun ⟨k, hk, _⟩ => Nat.not_lt_zero k hk
  | succ fuel ih =>
    cases hbit : (statusByte s).getLsbD w.bit with
    | true =>
      rw [waitLoop_of_set fuel hlive hbit, Option.some.injEq]
      constructor
      · rintro rfl
        exact ⟨0, Nat.succ_pos fuel, (firstSetAfter_of_set hlive hbit).mpr ⟨rfl, rfl⟩⟩
      · rintro ⟨k, -, h⟩
        exact ((firstSetAfter_of_set hlive hbit).mp h).2.symm
    | false =>
      have hlive' : (liveEffect .tick (liveEffect .rdStatus s)).faulted = false := liveEffect_live rfl hlive
      rw [waitLoop_of_clear fuel hlive hbit, ih hlive']
      simp only [firstSetAfter_of_clear hlive hbit]
      constructor
      · rintro ⟨m, hm, h⟩
        exact ⟨m + 1, Nat.succ_lt_succ hm, m, rfl, h⟩
      · rintro ⟨_, hk, m, rfl, h⟩
        exact ⟨m, Nat.lt_of_succ_lt_succ hk, h⟩

/-- Settles O53: the loop's rounds are the read-and-TICK pairs before the first read that shows the bit. -/
theorem pollingLoopEndsAtFirstSetBit : Obligations.PollingLoopEndsAtFirstSetBit :=
  fun w fuel _ _ hlive => waitLoop_eq_some_iff w fuel hlive

end Sys2Proof.Machine
end
